-- ==== Sys2Proof/Word.lean ====
section
/-! DEFINITION. The two word types of the machine (R4: 8-bit data, 16-bit addresses). -/

namespace Sys2Proof

/-- A memory cell, a register A, X, Y, SP, the data bus (R4, R50). -/
abbrev Byte := BitVec 8

/-- PC and a bus address (R4, R50). -/
abbrev Word := BitVec 16

end Sys2Proof
end

