-- ==== Sys2Proof/Machine/Bits.lean ====
section
/-! DEFINITION. Byte order, sign extension and field helpers of the spec's notation (R5, R6, R54). -/

namespace Sys2Proof

/-- `word(h, l)`, the 16-bit value `h : l` (R5); the byte at the lower address is `l` (R54). -/
def word (h l : Byte) : Word := h ++ l

/-- `lo8(w)` = `w[7:0]` (R5). -/
def lo8 (w : Word) : Byte := w.extractLsb' 0 8

/-- `hi8(w)` = `w[15:8]` (R5). -/
def hi8 (w : Word) : Byte := w.extractLsb' 8 8

/-- `sext_16(b)` (R6), used for the branch displacement only (R112). -/
def sext16 (b : Byte) : Word := b.signExtend 16

/-- `zext_16(b)` (R6). -/
def zext16 (b : Byte) : Word := b.zeroExtend 16

/-- Bit `i` of a byte, `v[i]` (R5). -/
def bit (v : Byte) (i : Nat) : Bool := v.getLsbD i

/-- A Boolean used as a bit (R5). -/
def bitNat (b : Bool) : Nat := b.toNat

end Sys2Proof
end

