-- ==== Sys2Proof/Syntax.lean ====
section
/-! DEFINITION. The instructions: one constructor per row of the opcode table (R80 to R87), named by the row's mnemonic and mode. -/

namespace Sys2Proof

/-- The 56 mnemonics (R86). -/
inductive Mnemonic where
  | adc | and | asl | bcc | bcs | beq | bit | bmi | bne | bpl | brk | bvc | bvs | clc
  | cld | cli | clv | cmp | cpx | cpy | dec | dex | dey | eor | inc | inx | iny | jmp
  | jsr | lda | ldx | ldy | lsr | nop | ora | pha | php | pla | plp | rol | ror | rti
  | rts | sbc | sec | sed | sei | sta | stx | sty | tax | tay | tsx | txa | txs | tya
  deriving DecidableEq, Repr

/-- The 13 addressing-mode tags (R81, R115). -/
inductive Mode where
  | imp | acc | imm | zp | zpx | zpy | abs | absx | absy | ind | indx | indy | rel
  deriving DecidableEq, Repr

/-- The operand forms that have an effective address, with their operand bytes (R83, R102 to R110, R112). -/
inductive MemOperand where
  /-- zero-page (R102) -/
  | zp (d : Byte)
  /-- zero-page,X (R103) -/
  | zpx (d : Byte)
  /-- zero-page,Y (R104) -/
  | zpy (d : Byte)
  /-- absolute (R105) -/
  | abs (w : Word)
  /-- absolute,X (R106) -/
  | absx (w : Word)
  /-- absolute,Y (R107) -/
  | absy (w : Word)
  /-- (indirect), JMP only (R108) -/
  | ind (w : Word)
  /-- (zero-page,X) (R109) -/
  | indx (d : Byte)
  /-- (zero-page),Y (R110) -/
  | indy (d : Byte)
  /-- relative, branches only (R112) -/
  | rel (d : Byte)
  deriving DecidableEq, Repr

/-- Every operand form (R83). -/
inductive Operand where
  /-- implied (R111) -/
  | imp
  /-- accumulator (R111) -/
  | acc
  /-- immediate: the operand byte itself (R101, D27) -/
  | imm (v : Byte)
  | mem (m : MemOperand)
  deriving DecidableEq, Repr

/-- The instructions. The opcode byte in each comment is `match` in the opcode table. -/
inductive Instr where
  /-- 61: ADC (zero-page,X) (R131, R109) -/
  | adcIndx (d : Byte)
  /-- 65: ADC zero-page (R131, R102) -/
  | adcZp (d : Byte)
  /-- 69: ADC immediate (R131, R101) -/
  | adcImm (v : Byte)
  /-- 6D: ADC absolute (R131, R105) -/
  | adcAbs (w : Word)
  /-- 71: ADC (zero-page),Y (R131, R110) -/
  | adcIndy (d : Byte)
  /-- 75: ADC zero-page,X (R131, R103) -/
  | adcZpx (d : Byte)
  /-- 79: ADC absolute,Y (R131, R107) -/
  | adcAbsy (w : Word)
  /-- 7D: ADC absolute,X (R131, R106) -/
  | adcAbsx (w : Word)
  /-- 21: AND (zero-page,X) (R135, R109) -/
  | andIndx (d : Byte)
  /-- 25: AND zero-page (R135, R102) -/
  | andZp (d : Byte)
  /-- 29: AND immediate (R135, R101) -/
  | andImm (v : Byte)
  /-- 2D: AND absolute (R135, R105) -/
  | andAbs (w : Word)
  /-- 31: AND (zero-page),Y (R135, R110) -/
  | andIndy (d : Byte)
  /-- 35: AND zero-page,X (R135, R103) -/
  | andZpx (d : Byte)
  /-- 39: AND absolute,Y (R135, R107) -/
  | andAbsy (w : Word)
  /-- 3D: AND absolute,X (R135, R106) -/
  | andAbsx (w : Word)
  /-- 06: ASL zero-page (R141, R102) -/
  | aslZp (d : Byte)
  /-- 0A: ASL accumulator (R141, R111) -/
  | aslAcc
  /-- 0E: ASL absolute (R141, R105) -/
  | aslAbs (w : Word)
  /-- 16: ASL zero-page,X (R141, R103) -/
  | aslZpx (d : Byte)
  /-- 1E: ASL absolute,X (R141, R106) -/
  | aslAbsx (w : Word)
  /-- 90: BCC relative (R156, R112) -/
  | bcc (d : Byte)
  /-- B0: BCS relative (R157, R112) -/
  | bcs (d : Byte)
  /-- F0: BEQ relative (R158, R112) -/
  | beq (d : Byte)
  /-- 24: BIT zero-page (R138, R102) -/
  | bitZp (d : Byte)
  /-- 2C: BIT absolute (R138, R105) -/
  | bitAbs (w : Word)
  /-- 30: BMI relative (R160, R112) -/
  | bmi (d : Byte)
  /-- D0: BNE relative (R159, R112) -/
  | bne (d : Byte)
  /-- 10: BPL relative (R161, R112) -/
  | bpl (d : Byte)
  /-- 00: BRK implied (R176, R111) -/
  | brk
  /-- 50: BVC relative (R162, R112) -/
  | bvc (d : Byte)
  /-- 70: BVS relative (R163, R112) -/
  | bvs (d : Byte)
  /-- 18: CLC implied (R190, R111) -/
  | clc
  /-- D8: CLD implied (R194, R111) -/
  | cld
  /-- 58: CLI implied (R192, R111) -/
  | cli
  /-- B8: CLV implied (R196, R111) -/
  | clv
  /-- C1: CMP (zero-page,X) (R151, R109) -/
  | cmpIndx (d : Byte)
  /-- C5: CMP zero-page (R151, R102) -/
  | cmpZp (d : Byte)
  /-- C9: CMP immediate (R151, R101) -/
  | cmpImm (v : Byte)
  /-- CD: CMP absolute (R151, R105) -/
  | cmpAbs (w : Word)
  /-- D1: CMP (zero-page),Y (R151, R110) -/
  | cmpIndy (d : Byte)
  /-- D5: CMP zero-page,X (R151, R103) -/
  | cmpZpx (d : Byte)
  /-- D9: CMP absolute,Y (R151, R107) -/
  | cmpAbsy (w : Word)
  /-- DD: CMP absolute,X (R151, R106) -/
  | cmpAbsx (w : Word)
  /-- E0: CPX immediate (R152, R101) -/
  | cpxImm (v : Byte)
  /-- E4: CPX zero-page (R152, R102) -/
  | cpxZp (d : Byte)
  /-- EC: CPX absolute (R152, R105) -/
  | cpxAbs (w : Word)
  /-- C0: CPY immediate (R153, R101) -/
  | cpyImm (v : Byte)
  /-- C4: CPY zero-page (R153, R102) -/
  | cpyZp (d : Byte)
  /-- CC: CPY absolute (R153, R105) -/
  | cpyAbs (w : Word)
  /-- C6: DEC zero-page (R211, R102) -/
  | decZp (d : Byte)
  /-- CE: DEC absolute (R211, R105) -/
  | decAbs (w : Word)
  /-- D6: DEC zero-page,X (R211, R103) -/
  | decZpx (d : Byte)
  /-- DE: DEC absolute,X (R211, R106) -/
  | decAbsx (w : Word)
  /-- CA: DEX implied (R208, R111) -/
  | dex
  /-- 88: DEY implied (R209, R111) -/
  | dey
  /-- 41: EOR (zero-page,X) (R137, R109) -/
  | eorIndx (d : Byte)
  /-- 45: EOR zero-page (R137, R102) -/
  | eorZp (d : Byte)
  /-- 49: EOR immediate (R137, R101) -/
  | eorImm (v : Byte)
  /-- 4D: EOR absolute (R137, R105) -/
  | eorAbs (w : Word)
  /-- 51: EOR (zero-page),Y (R137, R110) -/
  | eorIndy (d : Byte)
  /-- 55: EOR zero-page,X (R137, R103) -/
  | eorZpx (d : Byte)
  /-- 59: EOR absolute,Y (R137, R107) -/
  | eorAbsy (w : Word)
  /-- 5D: EOR absolute,X (R137, R106) -/
  | eorAbsx (w : Word)
  /-- E6: INC zero-page (R210, R102) -/
  | incZp (d : Byte)
  /-- EE: INC absolute (R210, R105) -/
  | incAbs (w : Word)
  /-- F6: INC zero-page,X (R210, R103) -/
  | incZpx (d : Byte)
  /-- FE: INC absolute,X (R210, R106) -/
  | incAbsx (w : Word)
  /-- E8: INX implied (R206, R111) -/
  | inx
  /-- C8: INY implied (R207, R111) -/
  | iny
  /-- 4C: JMP absolute (R171, R105) -/
  | jmpAbs (w : Word)
  /-- 6C: JMP (indirect) (R172, R108) -/
  | jmpInd (w : Word)
  /-- 20: JSR absolute (R173, R105) -/
  | jsr (w : Word)
  /-- A1: LDA (zero-page,X) (R120, R109) -/
  | ldaIndx (d : Byte)
  /-- A5: LDA zero-page (R120, R102) -/
  | ldaZp (d : Byte)
  /-- A9: LDA immediate (R120, R101) -/
  | ldaImm (v : Byte)
  /-- AD: LDA absolute (R120, R105) -/
  | ldaAbs (w : Word)
  /-- B1: LDA (zero-page),Y (R120, R110) -/
  | ldaIndy (d : Byte)
  /-- B5: LDA zero-page,X (R120, R103) -/
  | ldaZpx (d : Byte)
  /-- B9: LDA absolute,Y (R120, R107) -/
  | ldaAbsy (w : Word)
  /-- BD: LDA absolute,X (R120, R106) -/
  | ldaAbsx (w : Word)
  /-- A2: LDX immediate (R121, R101) -/
  | ldxImm (v : Byte)
  /-- A6: LDX zero-page (R121, R102) -/
  | ldxZp (d : Byte)
  /-- AE: LDX absolute (R121, R105) -/
  | ldxAbs (w : Word)
  /-- B6: LDX zero-page,Y (R121, R104) -/
  | ldxZpy (d : Byte)
  /-- BE: LDX absolute,Y (R121, R107) -/
  | ldxAbsy (w : Word)
  /-- A0: LDY immediate (R122, R101) -/
  | ldyImm (v : Byte)
  /-- A4: LDY zero-page (R122, R102) -/
  | ldyZp (d : Byte)
  /-- AC: LDY absolute (R122, R105) -/
  | ldyAbs (w : Word)
  /-- B4: LDY zero-page,X (R122, R103) -/
  | ldyZpx (d : Byte)
  /-- BC: LDY absolute,X (R122, R106) -/
  | ldyAbsx (w : Word)
  /-- 46: LSR zero-page (R142, R102) -/
  | lsrZp (d : Byte)
  /-- 4A: LSR accumulator (R142, R111) -/
  | lsrAcc
  /-- 4E: LSR absolute (R142, R105) -/
  | lsrAbs (w : Word)
  /-- 56: LSR zero-page,X (R142, R103) -/
  | lsrZpx (d : Byte)
  /-- 5E: LSR absolute,X (R142, R106) -/
  | lsrAbsx (w : Word)
  /-- EA: NOP implied (R197, R111) -/
  | nop
  /-- 01: ORA (zero-page,X) (R136, R109) -/
  | oraIndx (d : Byte)
  /-- 05: ORA zero-page (R136, R102) -/
  | oraZp (d : Byte)
  /-- 09: ORA immediate (R136, R101) -/
  | oraImm (v : Byte)
  /-- 0D: ORA absolute (R136, R105) -/
  | oraAbs (w : Word)
  /-- 11: ORA (zero-page),Y (R136, R110) -/
  | oraIndy (d : Byte)
  /-- 15: ORA zero-page,X (R136, R103) -/
  | oraZpx (d : Byte)
  /-- 19: ORA absolute,Y (R136, R107) -/
  | oraAbsy (w : Word)
  /-- 1D: ORA absolute,X (R136, R106) -/
  | oraAbsx (w : Word)
  /-- 48: PHA implied (R180, R111) -/
  | pha
  /-- 08: PHP implied (R182, R111) -/
  | php
  /-- 68: PLA implied (R181, R111) -/
  | pla
  /-- 28: PLP implied (R183, R111) -/
  | plp
  /-- 26: ROL zero-page (R143, R102) -/
  | rolZp (d : Byte)
  /-- 2A: ROL accumulator (R143, R111) -/
  | rolAcc
  /-- 2E: ROL absolute (R143, R105) -/
  | rolAbs (w : Word)
  /-- 36: ROL zero-page,X (R143, R103) -/
  | rolZpx (d : Byte)
  /-- 3E: ROL absolute,X (R143, R106) -/
  | rolAbsx (w : Word)
  /-- 66: ROR zero-page (R144, R102) -/
  | rorZp (d : Byte)
  /-- 6A: ROR accumulator (R144, R111) -/
  | rorAcc
  /-- 6E: ROR absolute (R144, R105) -/
  | rorAbs (w : Word)
  /-- 76: ROR zero-page,X (R144, R103) -/
  | rorZpx (d : Byte)
  /-- 7E: ROR absolute,X (R144, R106) -/
  | rorAbsx (w : Word)
  /-- 40: RTI implied (R175, R111) -/
  | rti
  /-- 60: RTS implied (R174, R111) -/
  | rts
  /-- E1: SBC (zero-page,X) (R133, R109) -/
  | sbcIndx (d : Byte)
  /-- E5: SBC zero-page (R133, R102) -/
  | sbcZp (d : Byte)
  /-- E9: SBC immediate (R133, R101) -/
  | sbcImm (v : Byte)
  /-- ED: SBC absolute (R133, R105) -/
  | sbcAbs (w : Word)
  /-- F1: SBC (zero-page),Y (R133, R110) -/
  | sbcIndy (d : Byte)
  /-- F5: SBC zero-page,X (R133, R103) -/
  | sbcZpx (d : Byte)
  /-- F9: SBC absolute,Y (R133, R107) -/
  | sbcAbsy (w : Word)
  /-- FD: SBC absolute,X (R133, R106) -/
  | sbcAbsx (w : Word)
  /-- 38: SEC implied (R191, R111) -/
  | sec
  /-- F8: SED implied (R195, R111) -/
  | sed
  /-- 78: SEI implied (R193, R111) -/
  | sei
  /-- 81: STA (zero-page,X) (R123, R109) -/
  | staIndx (d : Byte)
  /-- 85: STA zero-page (R123, R102) -/
  | staZp (d : Byte)
  /-- 8D: STA absolute (R123, R105) -/
  | staAbs (w : Word)
  /-- 91: STA (zero-page),Y (R123, R110) -/
  | staIndy (d : Byte)
  /-- 95: STA zero-page,X (R123, R103) -/
  | staZpx (d : Byte)
  /-- 99: STA absolute,Y (R123, R107) -/
  | staAbsy (w : Word)
  /-- 9D: STA absolute,X (R123, R106) -/
  | staAbsx (w : Word)
  /-- 86: STX zero-page (R124, R102) -/
  | stxZp (d : Byte)
  /-- 8E: STX absolute (R124, R105) -/
  | stxAbs (w : Word)
  /-- 96: STX zero-page,Y (R124, R104) -/
  | stxZpy (d : Byte)
  /-- 84: STY zero-page (R125, R102) -/
  | styZp (d : Byte)
  /-- 8C: STY absolute (R125, R105) -/
  | styAbs (w : Word)
  /-- 94: STY zero-page,X (R125, R103) -/
  | styZpx (d : Byte)
  /-- AA: TAX implied (R200, R111) -/
  | tax
  /-- A8: TAY implied (R201, R111) -/
  | tay
  /-- BA: TSX implied (R204, R111) -/
  | tsx
  /-- 8A: TXA implied (R202, R111) -/
  | txa
  /-- 9A: TXS implied (R205, R111) -/
  | txs
  /-- 98: TYA implied (R203, R111) -/
  | tya
  deriving DecidableEq, Repr

end Sys2Proof
end

