-- ==== Sys2Proof/Machine/Descriptor.lean ====
section
/-! DEFINITION. An instruction's mnemonic, operand, mode and length (R81, R84, R85). -/

namespace Sys2Proof

/-- The operand bytes a mode has (R81). -/
def Mode.operandBytes : Mode → Nat
  | .imp => 0
  | .acc => 0
  | .imm => 1
  | .zp => 1
  | .zpx => 1
  | .zpy => 1
  | .abs => 2
  | .absx => 2
  | .absy => 2
  | .ind => 2
  | .indx => 1
  | .indy => 1
  | .rel => 1

/-- The length of an instruction by its mode: the opcode byte and the operand bytes (R81). -/
def Mode.length (m : Mode) : Nat := 1 + m.operandBytes

/-- The mode of an operand with an effective address. -/
def MemOperand.mode : MemOperand → Mode
  | .zp _ => .zp
  | .zpx _ => .zpx
  | .zpy _ => .zpy
  | .abs _ => .abs
  | .absx _ => .absx
  | .absy _ => .absy
  | .ind _ => .ind
  | .indx _ => .indx
  | .indy _ => .indy
  | .rel _ => .rel

/-- The mode of an operand. -/
def Operand.mode : Operand → Mode
  | .imp => .imp
  | .acc => .acc
  | .imm _ => .imm
  | .mem m => m.mode

/-- The mnemonic of an instruction (R86). -/
def Instr.mnemonic : Instr → Mnemonic
  | .adcIndx _ => .adc
  | .adcZp _ => .adc
  | .adcImm _ => .adc
  | .adcAbs _ => .adc
  | .adcIndy _ => .adc
  | .adcZpx _ => .adc
  | .adcAbsy _ => .adc
  | .adcAbsx _ => .adc
  | .andIndx _ => .and
  | .andZp _ => .and
  | .andImm _ => .and
  | .andAbs _ => .and
  | .andIndy _ => .and
  | .andZpx _ => .and
  | .andAbsy _ => .and
  | .andAbsx _ => .and
  | .aslZp _ => .asl
  | .aslAcc => .asl
  | .aslAbs _ => .asl
  | .aslZpx _ => .asl
  | .aslAbsx _ => .asl
  | .bcc _ => .bcc
  | .bcs _ => .bcs
  | .beq _ => .beq
  | .bitZp _ => .bit
  | .bitAbs _ => .bit
  | .bmi _ => .bmi
  | .bne _ => .bne
  | .bpl _ => .bpl
  | .brk => .brk
  | .bvc _ => .bvc
  | .bvs _ => .bvs
  | .clc => .clc
  | .cld => .cld
  | .cli => .cli
  | .clv => .clv
  | .cmpIndx _ => .cmp
  | .cmpZp _ => .cmp
  | .cmpImm _ => .cmp
  | .cmpAbs _ => .cmp
  | .cmpIndy _ => .cmp
  | .cmpZpx _ => .cmp
  | .cmpAbsy _ => .cmp
  | .cmpAbsx _ => .cmp
  | .cpxImm _ => .cpx
  | .cpxZp _ => .cpx
  | .cpxAbs _ => .cpx
  | .cpyImm _ => .cpy
  | .cpyZp _ => .cpy
  | .cpyAbs _ => .cpy
  | .decZp _ => .dec
  | .decAbs _ => .dec
  | .decZpx _ => .dec
  | .decAbsx _ => .dec
  | .dex => .dex
  | .dey => .dey
  | .eorIndx _ => .eor
  | .eorZp _ => .eor
  | .eorImm _ => .eor
  | .eorAbs _ => .eor
  | .eorIndy _ => .eor
  | .eorZpx _ => .eor
  | .eorAbsy _ => .eor
  | .eorAbsx _ => .eor
  | .incZp _ => .inc
  | .incAbs _ => .inc
  | .incZpx _ => .inc
  | .incAbsx _ => .inc
  | .inx => .inx
  | .iny => .iny
  | .jmpAbs _ => .jmp
  | .jmpInd _ => .jmp
  | .jsr _ => .jsr
  | .ldaIndx _ => .lda
  | .ldaZp _ => .lda
  | .ldaImm _ => .lda
  | .ldaAbs _ => .lda
  | .ldaIndy _ => .lda
  | .ldaZpx _ => .lda
  | .ldaAbsy _ => .lda
  | .ldaAbsx _ => .lda
  | .ldxImm _ => .ldx
  | .ldxZp _ => .ldx
  | .ldxAbs _ => .ldx
  | .ldxZpy _ => .ldx
  | .ldxAbsy _ => .ldx
  | .ldyImm _ => .ldy
  | .ldyZp _ => .ldy
  | .ldyAbs _ => .ldy
  | .ldyZpx _ => .ldy
  | .ldyAbsx _ => .ldy
  | .lsrZp _ => .lsr
  | .lsrAcc => .lsr
  | .lsrAbs _ => .lsr
  | .lsrZpx _ => .lsr
  | .lsrAbsx _ => .lsr
  | .nop => .nop
  | .oraIndx _ => .ora
  | .oraZp _ => .ora
  | .oraImm _ => .ora
  | .oraAbs _ => .ora
  | .oraIndy _ => .ora
  | .oraZpx _ => .ora
  | .oraAbsy _ => .ora
  | .oraAbsx _ => .ora
  | .pha => .pha
  | .php => .php
  | .pla => .pla
  | .plp => .plp
  | .rolZp _ => .rol
  | .rolAcc => .rol
  | .rolAbs _ => .rol
  | .rolZpx _ => .rol
  | .rolAbsx _ => .rol
  | .rorZp _ => .ror
  | .rorAcc => .ror
  | .rorAbs _ => .ror
  | .rorZpx _ => .ror
  | .rorAbsx _ => .ror
  | .rti => .rti
  | .rts => .rts
  | .sbcIndx _ => .sbc
  | .sbcZp _ => .sbc
  | .sbcImm _ => .sbc
  | .sbcAbs _ => .sbc
  | .sbcIndy _ => .sbc
  | .sbcZpx _ => .sbc
  | .sbcAbsy _ => .sbc
  | .sbcAbsx _ => .sbc
  | .sec => .sec
  | .sed => .sed
  | .sei => .sei
  | .staIndx _ => .sta
  | .staZp _ => .sta
  | .staAbs _ => .sta
  | .staIndy _ => .sta
  | .staZpx _ => .sta
  | .staAbsy _ => .sta
  | .staAbsx _ => .sta
  | .stxZp _ => .stx
  | .stxAbs _ => .stx
  | .stxZpy _ => .stx
  | .styZp _ => .sty
  | .styAbs _ => .sty
  | .styZpx _ => .sty
  | .tax => .tax
  | .tay => .tay
  | .tsx => .tsx
  | .txa => .txa
  | .txs => .txs
  | .tya => .tya

/-- The operand of an instruction (R83). -/
def Instr.operand : Instr → Operand
  | .adcIndx d => .mem (.indx d)
  | .adcZp d => .mem (.zp d)
  | .adcImm v => .imm v
  | .adcAbs w => .mem (.abs w)
  | .adcIndy d => .mem (.indy d)
  | .adcZpx d => .mem (.zpx d)
  | .adcAbsy w => .mem (.absy w)
  | .adcAbsx w => .mem (.absx w)
  | .andIndx d => .mem (.indx d)
  | .andZp d => .mem (.zp d)
  | .andImm v => .imm v
  | .andAbs w => .mem (.abs w)
  | .andIndy d => .mem (.indy d)
  | .andZpx d => .mem (.zpx d)
  | .andAbsy w => .mem (.absy w)
  | .andAbsx w => .mem (.absx w)
  | .aslZp d => .mem (.zp d)
  | .aslAcc => .acc
  | .aslAbs w => .mem (.abs w)
  | .aslZpx d => .mem (.zpx d)
  | .aslAbsx w => .mem (.absx w)
  | .bcc d => .mem (.rel d)
  | .bcs d => .mem (.rel d)
  | .beq d => .mem (.rel d)
  | .bitZp d => .mem (.zp d)
  | .bitAbs w => .mem (.abs w)
  | .bmi d => .mem (.rel d)
  | .bne d => .mem (.rel d)
  | .bpl d => .mem (.rel d)
  | .brk => .imp
  | .bvc d => .mem (.rel d)
  | .bvs d => .mem (.rel d)
  | .clc => .imp
  | .cld => .imp
  | .cli => .imp
  | .clv => .imp
  | .cmpIndx d => .mem (.indx d)
  | .cmpZp d => .mem (.zp d)
  | .cmpImm v => .imm v
  | .cmpAbs w => .mem (.abs w)
  | .cmpIndy d => .mem (.indy d)
  | .cmpZpx d => .mem (.zpx d)
  | .cmpAbsy w => .mem (.absy w)
  | .cmpAbsx w => .mem (.absx w)
  | .cpxImm v => .imm v
  | .cpxZp d => .mem (.zp d)
  | .cpxAbs w => .mem (.abs w)
  | .cpyImm v => .imm v
  | .cpyZp d => .mem (.zp d)
  | .cpyAbs w => .mem (.abs w)
  | .decZp d => .mem (.zp d)
  | .decAbs w => .mem (.abs w)
  | .decZpx d => .mem (.zpx d)
  | .decAbsx w => .mem (.absx w)
  | .dex => .imp
  | .dey => .imp
  | .eorIndx d => .mem (.indx d)
  | .eorZp d => .mem (.zp d)
  | .eorImm v => .imm v
  | .eorAbs w => .mem (.abs w)
  | .eorIndy d => .mem (.indy d)
  | .eorZpx d => .mem (.zpx d)
  | .eorAbsy w => .mem (.absy w)
  | .eorAbsx w => .mem (.absx w)
  | .incZp d => .mem (.zp d)
  | .incAbs w => .mem (.abs w)
  | .incZpx d => .mem (.zpx d)
  | .incAbsx w => .mem (.absx w)
  | .inx => .imp
  | .iny => .imp
  | .jmpAbs w => .mem (.abs w)
  | .jmpInd w => .mem (.ind w)
  | .jsr w => .mem (.abs w)
  | .ldaIndx d => .mem (.indx d)
  | .ldaZp d => .mem (.zp d)
  | .ldaImm v => .imm v
  | .ldaAbs w => .mem (.abs w)
  | .ldaIndy d => .mem (.indy d)
  | .ldaZpx d => .mem (.zpx d)
  | .ldaAbsy w => .mem (.absy w)
  | .ldaAbsx w => .mem (.absx w)
  | .ldxImm v => .imm v
  | .ldxZp d => .mem (.zp d)
  | .ldxAbs w => .mem (.abs w)
  | .ldxZpy d => .mem (.zpy d)
  | .ldxAbsy w => .mem (.absy w)
  | .ldyImm v => .imm v
  | .ldyZp d => .mem (.zp d)
  | .ldyAbs w => .mem (.abs w)
  | .ldyZpx d => .mem (.zpx d)
  | .ldyAbsx w => .mem (.absx w)
  | .lsrZp d => .mem (.zp d)
  | .lsrAcc => .acc
  | .lsrAbs w => .mem (.abs w)
  | .lsrZpx d => .mem (.zpx d)
  | .lsrAbsx w => .mem (.absx w)
  | .nop => .imp
  | .oraIndx d => .mem (.indx d)
  | .oraZp d => .mem (.zp d)
  | .oraImm v => .imm v
  | .oraAbs w => .mem (.abs w)
  | .oraIndy d => .mem (.indy d)
  | .oraZpx d => .mem (.zpx d)
  | .oraAbsy w => .mem (.absy w)
  | .oraAbsx w => .mem (.absx w)
  | .pha => .imp
  | .php => .imp
  | .pla => .imp
  | .plp => .imp
  | .rolZp d => .mem (.zp d)
  | .rolAcc => .acc
  | .rolAbs w => .mem (.abs w)
  | .rolZpx d => .mem (.zpx d)
  | .rolAbsx w => .mem (.absx w)
  | .rorZp d => .mem (.zp d)
  | .rorAcc => .acc
  | .rorAbs w => .mem (.abs w)
  | .rorZpx d => .mem (.zpx d)
  | .rorAbsx w => .mem (.absx w)
  | .rti => .imp
  | .rts => .imp
  | .sbcIndx d => .mem (.indx d)
  | .sbcZp d => .mem (.zp d)
  | .sbcImm v => .imm v
  | .sbcAbs w => .mem (.abs w)
  | .sbcIndy d => .mem (.indy d)
  | .sbcZpx d => .mem (.zpx d)
  | .sbcAbsy w => .mem (.absy w)
  | .sbcAbsx w => .mem (.absx w)
  | .sec => .imp
  | .sed => .imp
  | .sei => .imp
  | .staIndx d => .mem (.indx d)
  | .staZp d => .mem (.zp d)
  | .staAbs w => .mem (.abs w)
  | .staIndy d => .mem (.indy d)
  | .staZpx d => .mem (.zpx d)
  | .staAbsy w => .mem (.absy w)
  | .staAbsx w => .mem (.absx w)
  | .stxZp d => .mem (.zp d)
  | .stxAbs w => .mem (.abs w)
  | .stxZpy d => .mem (.zpy d)
  | .styZp d => .mem (.zp d)
  | .styAbs w => .mem (.abs w)
  | .styZpx d => .mem (.zpx d)
  | .tax => .imp
  | .tay => .imp
  | .tsx => .imp
  | .txa => .imp
  | .txs => .imp
  | .tya => .imp

/-- The mode of an instruction. -/
def Instr.mode (i : Instr) : Mode := i.operand.mode

/-- The length of an instruction in bytes (R81). -/
def Instr.length (i : Instr) : Nat := i.mode.length

end Sys2Proof
end

