-- ==== Sys2Proof/WellFormed.lean ====
section
/-! DEFINITION. Which mnemonic exists in which mode (the table of R86), and well-formedness. An Instr carries its operand at the
exact width, so the one check left is that of an assembly line: the mnemonic must have the mode. -/

namespace Sys2Proof

/-- The modes each mnemonic exists in: the filled cells of its row in R86. -/
def Mnemonic.modes : Mnemonic → List Mode
  | .adc => [.imm, .zp, .zpx, .abs, .absx, .absy, .indx, .indy]
  | .and => [.imm, .zp, .zpx, .abs, .absx, .absy, .indx, .indy]
  | .asl => [.acc, .zp, .zpx, .abs, .absx]
  | .bcc => [.rel]
  | .bcs => [.rel]
  | .beq => [.rel]
  | .bit => [.zp, .abs]
  | .bmi => [.rel]
  | .bne => [.rel]
  | .bpl => [.rel]
  | .brk => [.imp]
  | .bvc => [.rel]
  | .bvs => [.rel]
  | .clc => [.imp]
  | .cld => [.imp]
  | .cli => [.imp]
  | .clv => [.imp]
  | .cmp => [.imm, .zp, .zpx, .abs, .absx, .absy, .indx, .indy]
  | .cpx => [.imm, .zp, .abs]
  | .cpy => [.imm, .zp, .abs]
  | .dec => [.zp, .zpx, .abs, .absx]
  | .dex => [.imp]
  | .dey => [.imp]
  | .eor => [.imm, .zp, .zpx, .abs, .absx, .absy, .indx, .indy]
  | .inc => [.zp, .zpx, .abs, .absx]
  | .inx => [.imp]
  | .iny => [.imp]
  | .jmp => [.abs, .ind]
  | .jsr => [.abs]
  | .lda => [.imm, .zp, .zpx, .abs, .absx, .absy, .indx, .indy]
  | .ldx => [.imm, .zp, .zpy, .abs, .absy]
  | .ldy => [.imm, .zp, .zpx, .abs, .absx]
  | .lsr => [.acc, .zp, .zpx, .abs, .absx]
  | .nop => [.imp]
  | .ora => [.imm, .zp, .zpx, .abs, .absx, .absy, .indx, .indy]
  | .pha => [.imp]
  | .php => [.imp]
  | .pla => [.imp]
  | .plp => [.imp]
  | .rol => [.acc, .zp, .zpx, .abs, .absx]
  | .ror => [.acc, .zp, .zpx, .abs, .absx]
  | .rti => [.imp]
  | .rts => [.imp]
  | .sbc => [.imm, .zp, .zpx, .abs, .absx, .absy, .indx, .indy]
  | .sec => [.imp]
  | .sed => [.imp]
  | .sei => [.imp]
  | .sta => [.zp, .zpx, .abs, .absx, .absy, .indx, .indy]
  | .stx => [.zp, .zpy, .abs]
  | .sty => [.zp, .zpx, .abs]
  | .tax => [.imp]
  | .tay => [.imp]
  | .tsx => [.imp]
  | .txa => [.imp]
  | .txs => [.imp]
  | .tya => [.imp]

/-- One line of assembly: a mnemonic and an operand (R91). It is an instruction exactly when the mnemonic exists in the operand's
mode. -/
structure AsmLine where
  mnemonic : Mnemonic
  operand : Operand
  deriving DecidableEq, Repr

/-- The mnemonic exists in the operand's mode (R86). -/
def AsmLine.wellFormed (l : AsmLine) : Bool := l.mnemonic.modes.contains l.operand.mode

/-- The assembly line of an instruction (R91, R92: one line is one instruction). -/
def Instr.line (i : Instr) : AsmLine := { mnemonic := i.mnemonic, operand := i.operand }

/-- An instruction is well-formed when its assembly line is. -/
def Instr.wellFormed (i : Instr) : Bool := i.line.wellFormed

end Sys2Proof
end

