-- ==== Sys2Proof/Decode.lean ====
section
/-! DEFINITION. The opcode table (R85 to R87, opcode_table.json), decoding (R80 to R84, R88) and encoding (R82). -/

namespace Sys2Proof

/-- The three instruction formats (R82), each with how the instruction is made from its operand bytes. -/
inductive Layout where
  /-- F1: the opcode byte alone. -/
  | f1 (i : Instr)
  /-- F2: the opcode byte and `d8`. -/
  | f2 (make : Byte → Instr)
  /-- F3: the opcode byte, `lo`, `hi`; the operand is `hi : lo`. -/
  | f3 (make : Word → Instr)

/-- The Opcode Descriptor of one opcode byte (R42, R85). -/
structure Descriptor where
  opcode : Byte
  mnemonic : Mnemonic
  mode : Mode
  /-- The base cycle cost (R276). -/
  cycles : Nat
  /-- Add one cycle if a page is crossed. -/
  pageCross : Bool
  /-- Add one cycle if the branch is taken. -/
  branch : Bool
  layout : Layout

/-- The legal opcodes 00 to 0F (R87). -/
def opcodeRow0 : List Descriptor :=
  [ ⟨0x00, .brk, .imp, 7, false, false, .f1 .brk⟩,
    ⟨0x01, .ora, .indx, 6, false, false, .f2 .oraIndx⟩,
    ⟨0x05, .ora, .zp, 3, false, false, .f2 .oraZp⟩,
    ⟨0x06, .asl, .zp, 5, false, false, .f2 .aslZp⟩,
    ⟨0x08, .php, .imp, 3, false, false, .f1 .php⟩,
    ⟨0x09, .ora, .imm, 2, false, false, .f2 .oraImm⟩,
    ⟨0x0A, .asl, .acc, 2, false, false, .f1 .aslAcc⟩,
    ⟨0x0D, .ora, .abs, 4, false, false, .f3 .oraAbs⟩,
    ⟨0x0E, .asl, .abs, 6, false, false, .f3 .aslAbs⟩ ]

/-- The legal opcodes 10 to 1F (R87). -/
def opcodeRow1 : List Descriptor :=
  [ ⟨0x10, .bpl, .rel, 2, false, true, .f2 .bpl⟩,
    ⟨0x11, .ora, .indy, 5, true, false, .f2 .oraIndy⟩,
    ⟨0x15, .ora, .zpx, 4, false, false, .f2 .oraZpx⟩,
    ⟨0x16, .asl, .zpx, 6, false, false, .f2 .aslZpx⟩,
    ⟨0x18, .clc, .imp, 2, false, false, .f1 .clc⟩,
    ⟨0x19, .ora, .absy, 4, true, false, .f3 .oraAbsy⟩,
    ⟨0x1D, .ora, .absx, 4, true, false, .f3 .oraAbsx⟩,
    ⟨0x1E, .asl, .absx, 7, false, false, .f3 .aslAbsx⟩ ]

/-- The legal opcodes 20 to 2F (R87). -/
def opcodeRow2 : List Descriptor :=
  [ ⟨0x20, .jsr, .abs, 6, false, false, .f3 .jsr⟩,
    ⟨0x21, .and, .indx, 6, false, false, .f2 .andIndx⟩,
    ⟨0x24, .bit, .zp, 3, false, false, .f2 .bitZp⟩,
    ⟨0x25, .and, .zp, 3, false, false, .f2 .andZp⟩,
    ⟨0x26, .rol, .zp, 5, false, false, .f2 .rolZp⟩,
    ⟨0x28, .plp, .imp, 4, false, false, .f1 .plp⟩,
    ⟨0x29, .and, .imm, 2, false, false, .f2 .andImm⟩,
    ⟨0x2A, .rol, .acc, 2, false, false, .f1 .rolAcc⟩,
    ⟨0x2C, .bit, .abs, 4, false, false, .f3 .bitAbs⟩,
    ⟨0x2D, .and, .abs, 4, false, false, .f3 .andAbs⟩,
    ⟨0x2E, .rol, .abs, 6, false, false, .f3 .rolAbs⟩ ]

/-- The legal opcodes 30 to 3F (R87). -/
def opcodeRow3 : List Descriptor :=
  [ ⟨0x30, .bmi, .rel, 2, false, true, .f2 .bmi⟩,
    ⟨0x31, .and, .indy, 5, true, false, .f2 .andIndy⟩,
    ⟨0x35, .and, .zpx, 4, false, false, .f2 .andZpx⟩,
    ⟨0x36, .rol, .zpx, 6, false, false, .f2 .rolZpx⟩,
    ⟨0x38, .sec, .imp, 2, false, false, .f1 .sec⟩,
    ⟨0x39, .and, .absy, 4, true, false, .f3 .andAbsy⟩,
    ⟨0x3D, .and, .absx, 4, true, false, .f3 .andAbsx⟩,
    ⟨0x3E, .rol, .absx, 7, false, false, .f3 .rolAbsx⟩ ]

/-- The legal opcodes 40 to 4F (R87). -/
def opcodeRow4 : List Descriptor :=
  [ ⟨0x40, .rti, .imp, 6, false, false, .f1 .rti⟩,
    ⟨0x41, .eor, .indx, 6, false, false, .f2 .eorIndx⟩,
    ⟨0x45, .eor, .zp, 3, false, false, .f2 .eorZp⟩,
    ⟨0x46, .lsr, .zp, 5, false, false, .f2 .lsrZp⟩,
    ⟨0x48, .pha, .imp, 3, false, false, .f1 .pha⟩,
    ⟨0x49, .eor, .imm, 2, false, false, .f2 .eorImm⟩,
    ⟨0x4A, .lsr, .acc, 2, false, false, .f1 .lsrAcc⟩,
    ⟨0x4C, .jmp, .abs, 3, false, false, .f3 .jmpAbs⟩,
    ⟨0x4D, .eor, .abs, 4, false, false, .f3 .eorAbs⟩,
    ⟨0x4E, .lsr, .abs, 6, false, false, .f3 .lsrAbs⟩ ]

/-- The legal opcodes 50 to 5F (R87). -/
def opcodeRow5 : List Descriptor :=
  [ ⟨0x50, .bvc, .rel, 2, false, true, .f2 .bvc⟩,
    ⟨0x51, .eor, .indy, 5, true, false, .f2 .eorIndy⟩,
    ⟨0x55, .eor, .zpx, 4, false, false, .f2 .eorZpx⟩,
    ⟨0x56, .lsr, .zpx, 6, false, false, .f2 .lsrZpx⟩,
    ⟨0x58, .cli, .imp, 2, false, false, .f1 .cli⟩,
    ⟨0x59, .eor, .absy, 4, true, false, .f3 .eorAbsy⟩,
    ⟨0x5D, .eor, .absx, 4, true, false, .f3 .eorAbsx⟩,
    ⟨0x5E, .lsr, .absx, 7, false, false, .f3 .lsrAbsx⟩ ]

/-- The legal opcodes 60 to 6F (R87). -/
def opcodeRow6 : List Descriptor :=
  [ ⟨0x60, .rts, .imp, 6, false, false, .f1 .rts⟩,
    ⟨0x61, .adc, .indx, 6, false, false, .f2 .adcIndx⟩,
    ⟨0x65, .adc, .zp, 3, false, false, .f2 .adcZp⟩,
    ⟨0x66, .ror, .zp, 5, false, false, .f2 .rorZp⟩,
    ⟨0x68, .pla, .imp, 4, false, false, .f1 .pla⟩,
    ⟨0x69, .adc, .imm, 2, false, false, .f2 .adcImm⟩,
    ⟨0x6A, .ror, .acc, 2, false, false, .f1 .rorAcc⟩,
    ⟨0x6C, .jmp, .ind, 5, false, false, .f3 .jmpInd⟩,
    ⟨0x6D, .adc, .abs, 4, false, false, .f3 .adcAbs⟩,
    ⟨0x6E, .ror, .abs, 6, false, false, .f3 .rorAbs⟩ ]

/-- The legal opcodes 70 to 7F (R87). -/
def opcodeRow7 : List Descriptor :=
  [ ⟨0x70, .bvs, .rel, 2, false, true, .f2 .bvs⟩,
    ⟨0x71, .adc, .indy, 5, true, false, .f2 .adcIndy⟩,
    ⟨0x75, .adc, .zpx, 4, false, false, .f2 .adcZpx⟩,
    ⟨0x76, .ror, .zpx, 6, false, false, .f2 .rorZpx⟩,
    ⟨0x78, .sei, .imp, 2, false, false, .f1 .sei⟩,
    ⟨0x79, .adc, .absy, 4, true, false, .f3 .adcAbsy⟩,
    ⟨0x7D, .adc, .absx, 4, true, false, .f3 .adcAbsx⟩,
    ⟨0x7E, .ror, .absx, 7, false, false, .f3 .rorAbsx⟩ ]

/-- The legal opcodes 80 to 8F (R87). -/
def opcodeRow8 : List Descriptor :=
  [ ⟨0x81, .sta, .indx, 6, false, false, .f2 .staIndx⟩,
    ⟨0x84, .sty, .zp, 3, false, false, .f2 .styZp⟩,
    ⟨0x85, .sta, .zp, 3, false, false, .f2 .staZp⟩,
    ⟨0x86, .stx, .zp, 3, false, false, .f2 .stxZp⟩,
    ⟨0x88, .dey, .imp, 2, false, false, .f1 .dey⟩,
    ⟨0x8A, .txa, .imp, 2, false, false, .f1 .txa⟩,
    ⟨0x8C, .sty, .abs, 4, false, false, .f3 .styAbs⟩,
    ⟨0x8D, .sta, .abs, 4, false, false, .f3 .staAbs⟩,
    ⟨0x8E, .stx, .abs, 4, false, false, .f3 .stxAbs⟩ ]

/-- The legal opcodes 90 to 9F (R87). -/
def opcodeRow9 : List Descriptor :=
  [ ⟨0x90, .bcc, .rel, 2, false, true, .f2 .bcc⟩,
    ⟨0x91, .sta, .indy, 6, false, false, .f2 .staIndy⟩,
    ⟨0x94, .sty, .zpx, 4, false, false, .f2 .styZpx⟩,
    ⟨0x95, .sta, .zpx, 4, false, false, .f2 .staZpx⟩,
    ⟨0x96, .stx, .zpy, 4, false, false, .f2 .stxZpy⟩,
    ⟨0x98, .tya, .imp, 2, false, false, .f1 .tya⟩,
    ⟨0x99, .sta, .absy, 5, false, false, .f3 .staAbsy⟩,
    ⟨0x9A, .txs, .imp, 2, false, false, .f1 .txs⟩,
    ⟨0x9D, .sta, .absx, 5, false, false, .f3 .staAbsx⟩ ]

/-- The legal opcodes A0 to AF (R87). -/
def opcodeRowA : List Descriptor :=
  [ ⟨0xA0, .ldy, .imm, 2, false, false, .f2 .ldyImm⟩,
    ⟨0xA1, .lda, .indx, 6, false, false, .f2 .ldaIndx⟩,
    ⟨0xA2, .ldx, .imm, 2, false, false, .f2 .ldxImm⟩,
    ⟨0xA4, .ldy, .zp, 3, false, false, .f2 .ldyZp⟩,
    ⟨0xA5, .lda, .zp, 3, false, false, .f2 .ldaZp⟩,
    ⟨0xA6, .ldx, .zp, 3, false, false, .f2 .ldxZp⟩,
    ⟨0xA8, .tay, .imp, 2, false, false, .f1 .tay⟩,
    ⟨0xA9, .lda, .imm, 2, false, false, .f2 .ldaImm⟩,
    ⟨0xAA, .tax, .imp, 2, false, false, .f1 .tax⟩,
    ⟨0xAC, .ldy, .abs, 4, false, false, .f3 .ldyAbs⟩,
    ⟨0xAD, .lda, .abs, 4, false, false, .f3 .ldaAbs⟩,
    ⟨0xAE, .ldx, .abs, 4, false, false, .f3 .ldxAbs⟩ ]

/-- The legal opcodes B0 to BF (R87). -/
def opcodeRowB : List Descriptor :=
  [ ⟨0xB0, .bcs, .rel, 2, false, true, .f2 .bcs⟩,
    ⟨0xB1, .lda, .indy, 5, true, false, .f2 .ldaIndy⟩,
    ⟨0xB4, .ldy, .zpx, 4, false, false, .f2 .ldyZpx⟩,
    ⟨0xB5, .lda, .zpx, 4, false, false, .f2 .ldaZpx⟩,
    ⟨0xB6, .ldx, .zpy, 4, false, false, .f2 .ldxZpy⟩,
    ⟨0xB8, .clv, .imp, 2, false, false, .f1 .clv⟩,
    ⟨0xB9, .lda, .absy, 4, true, false, .f3 .ldaAbsy⟩,
    ⟨0xBA, .tsx, .imp, 2, false, false, .f1 .tsx⟩,
    ⟨0xBC, .ldy, .absx, 4, true, false, .f3 .ldyAbsx⟩,
    ⟨0xBD, .lda, .absx, 4, true, false, .f3 .ldaAbsx⟩,
    ⟨0xBE, .ldx, .absy, 4, true, false, .f3 .ldxAbsy⟩ ]

/-- The legal opcodes C0 to CF (R87). -/
def opcodeRowC : List Descriptor :=
  [ ⟨0xC0, .cpy, .imm, 2, false, false, .f2 .cpyImm⟩,
    ⟨0xC1, .cmp, .indx, 6, false, false, .f2 .cmpIndx⟩,
    ⟨0xC4, .cpy, .zp, 3, false, false, .f2 .cpyZp⟩,
    ⟨0xC5, .cmp, .zp, 3, false, false, .f2 .cmpZp⟩,
    ⟨0xC6, .dec, .zp, 5, false, false, .f2 .decZp⟩,
    ⟨0xC8, .iny, .imp, 2, false, false, .f1 .iny⟩,
    ⟨0xC9, .cmp, .imm, 2, false, false, .f2 .cmpImm⟩,
    ⟨0xCA, .dex, .imp, 2, false, false, .f1 .dex⟩,
    ⟨0xCC, .cpy, .abs, 4, false, false, .f3 .cpyAbs⟩,
    ⟨0xCD, .cmp, .abs, 4, false, false, .f3 .cmpAbs⟩,
    ⟨0xCE, .dec, .abs, 6, false, false, .f3 .decAbs⟩ ]

/-- The legal opcodes D0 to DF (R87). -/
def opcodeRowD : List Descriptor :=
  [ ⟨0xD0, .bne, .rel, 2, false, true, .f2 .bne⟩,
    ⟨0xD1, .cmp, .indy, 5, true, false, .f2 .cmpIndy⟩,
    ⟨0xD5, .cmp, .zpx, 4, false, false, .f2 .cmpZpx⟩,
    ⟨0xD6, .dec, .zpx, 6, false, false, .f2 .decZpx⟩,
    ⟨0xD8, .cld, .imp, 2, false, false, .f1 .cld⟩,
    ⟨0xD9, .cmp, .absy, 4, true, false, .f3 .cmpAbsy⟩,
    ⟨0xDD, .cmp, .absx, 4, true, false, .f3 .cmpAbsx⟩,
    ⟨0xDE, .dec, .absx, 7, false, false, .f3 .decAbsx⟩ ]

/-- The legal opcodes E0 to EF (R87). -/
def opcodeRowE : List Descriptor :=
  [ ⟨0xE0, .cpx, .imm, 2, false, false, .f2 .cpxImm⟩,
    ⟨0xE1, .sbc, .indx, 6, false, false, .f2 .sbcIndx⟩,
    ⟨0xE4, .cpx, .zp, 3, false, false, .f2 .cpxZp⟩,
    ⟨0xE5, .sbc, .zp, 3, false, false, .f2 .sbcZp⟩,
    ⟨0xE6, .inc, .zp, 5, false, false, .f2 .incZp⟩,
    ⟨0xE8, .inx, .imp, 2, false, false, .f1 .inx⟩,
    ⟨0xE9, .sbc, .imm, 2, false, false, .f2 .sbcImm⟩,
    ⟨0xEA, .nop, .imp, 2, false, false, .f1 .nop⟩,
    ⟨0xEC, .cpx, .abs, 4, false, false, .f3 .cpxAbs⟩,
    ⟨0xED, .sbc, .abs, 4, false, false, .f3 .sbcAbs⟩,
    ⟨0xEE, .inc, .abs, 6, false, false, .f3 .incAbs⟩ ]

/-- The legal opcodes F0 to FF (R87). -/
def opcodeRowF : List Descriptor :=
  [ ⟨0xF0, .beq, .rel, 2, false, true, .f2 .beq⟩,
    ⟨0xF1, .sbc, .indy, 5, true, false, .f2 .sbcIndy⟩,
    ⟨0xF5, .sbc, .zpx, 4, false, false, .f2 .sbcZpx⟩,
    ⟨0xF6, .inc, .zpx, 6, false, false, .f2 .incZpx⟩,
    ⟨0xF8, .sed, .imp, 2, false, false, .f1 .sed⟩,
    ⟨0xF9, .sbc, .absy, 4, true, false, .f3 .sbcAbsy⟩,
    ⟨0xFD, .sbc, .absx, 4, true, false, .f3 .sbcAbsx⟩,
    ⟨0xFE, .inc, .absx, 7, false, false, .f3 .incAbsx⟩ ]

/-- The opcode table: the 151 legal opcode bytes (R86, R87). -/
def opcodeTable : List Descriptor :=
  opcodeRow0 ++ opcodeRow1 ++ opcodeRow2 ++ opcodeRow3 ++ opcodeRow4 ++ opcodeRow5 ++ opcodeRow6 ++ opcodeRow7 ++
  opcodeRow8 ++ opcodeRow9 ++ opcodeRowA ++ opcodeRowB ++ opcodeRowC ++ opcodeRowD ++ opcodeRowE ++ opcodeRowF

/-- `dispatch(opcode_byte)` (R84): the byte's descriptor, none for the 105 illegal bytes (R88). -/
def dispatch (op : Byte) : Option Descriptor := opcodeTable.find? fun d => d.opcode == op

/-- Why bytes are no instruction. -/
inductive Reject where
  /-- No byte at all. -/
  | empty
  /-- The first byte is one of the 105 illegal opcode bytes (R88). -/
  | illegalOpcode (op : Byte)
  /-- The bytes end before the instruction does (R81). -/
  | truncated (op : Byte)
  deriving DecidableEq, Repr

/-- Reads one instruction from the bytes at ascending addresses and returns it with the bytes after it (R80 to R84). -/
def decode : List Byte → Except Reject (Instr × List Byte)
  | [] => .error .empty
  | op :: rest =>
    match dispatch op with
    | none => .error (.illegalOpcode op)
    | some d =>
      match d.layout, rest with
      | .f1 i, bs => .ok (i, bs)
      | .f2 make, d8 :: bs => .ok (make d8, bs)
      | .f3 make, lo :: hi :: bs => .ok (make (word hi lo), bs)
      | .f2 _, [] => .error (.truncated op)
      | .f3 _, [] => .error (.truncated op)
      | .f3 _, [_] => .error (.truncated op)

/-- The descriptor of an instruction: the table's row with its mnemonic and its mode. -/
def Instr.descriptor (i : Instr) : Option Descriptor :=
  opcodeTable.find? fun d => d.mnemonic == i.mnemonic && d.mode == i.mode

/-- The opcode byte of an instruction (R86). Every instruction has a descriptor, so the last case is never used. -/
def Instr.opcode (i : Instr) : Byte :=
  match i.descriptor with
  | some d => d.opcode
  | none => 0x00

/-- The operand bytes of an operand with an effective address, in ascending address order (R82, R83). -/
def MemOperand.bytes : MemOperand → List Byte
  | .zp d => [d]
  | .zpx d => [d]
  | .zpy d => [d]
  | .abs w => [lo8 w, hi8 w]
  | .absx w => [lo8 w, hi8 w]
  | .absy w => [lo8 w, hi8 w]
  | .ind w => [lo8 w, hi8 w]
  | .indx d => [d]
  | .indy d => [d]
  | .rel d => [d]

/-- The operand bytes of an operand (R82, R83). -/
def Operand.bytes : Operand → List Byte
  | .imp => []
  | .acc => []
  | .imm v => [v]
  | .mem m => m.bytes

/-- The bytes of an instruction at ascending addresses (R80, R82). -/
def encode (i : Instr) : List Byte := i.opcode :: i.operand.bytes

/-- Byte `k` of a number whose bit 0 is the least significant bit of the first byte. -/
def tableByte (nbits w k : Nat) : Byte := BitVec.ofNat 8 ((w % 2 ^ nbits) >>> (8 * k))

/-- The bytes of an instruction numbered as opcode_table.json numbers its bits; the bits above `nbits` are 0. -/
def tableBytes (nbits w : Nat) : List Byte := [tableByte nbits w 0, tableByte nbits w 1, tableByte nbits w 2]

/-- What `decode` reads from an instruction numbered as opcode_table.json numbers its bits. -/
def decodeTableWord (nbits w : Nat) : Option Instr :=
  match decode (tableBytes nbits w) with
  | .ok (i, _) => some i
  | .error _ => none

end Sys2Proof
end

