-- ==== Sys2Proof/Config.lean ====
section
/-! DEFINITION. What a platform or an implementation fixes: the three OPEN parameters of R4, the shape of an address
map (R68), and the free values of what the spec leaves open (U3, U5). -/

namespace Sys2Proof

/-- Parameter `DECIMAL` (R4, D4): the meaning of P.D = 1 in ADC and SBC. -/
inductive DecimalMode where
  /-- The original 6502's decimal arithmetic (R132, R134); the default. -/
  | nmos
  /-- ADC and SBC are always binary (R131, R133). -/
  | ignored
  deriving DecidableEq, Repr

/-- The parameters R4 marks OPEN, which a model takes as arguments. -/
structure Params where
  /-- `DECIMAL` (D4). -/
  decimal : DecimalMode
  /-- `JMP_IND_WRAP` (D5): the pointer of JMP (indirect) wraps inside its page. -/
  jmpIndWrap : Bool
  /-- `BRK_PAD` (D6): how many bytes BRK skips after its opcode, 0 or 1. -/
  brkPad : Fin 2
  deriving DecidableEq, Repr

/-- Who answers a range of addresses (R53, R68). -/
inductive RegionKind where
  /-- Plain memory: a read returns the byte last written. -/
  | ram
  /-- The cartridge's program bytes: a read returns them, a write changes nothing (U8). -/
  | rom
  /-- A peripheral window or the expansion range: the owner answers, the core's rules do not constrain it (R53, U5). -/
  | device
  deriving DecidableEq, Repr

/-- One row of the platform's address map (R68): the addresses `first` to `last`, mirrored every `period`. -/
structure Region where
  first : Nat
  last : Nat
  period : Nat
  kind : RegionKind
  deriving DecidableEq, Repr

/-- The platform's address map; an address in no region is refused by the bus (R52, R241). -/
abbrev BusMap := List Region

/-- A bus transaction that something outside the modelled memory answers or receives (R51, R57). -/
inductive BusEvent where
  /-- `readByCpu(a)` of a device register. -/
  | read (a : Word)
  /-- `writeByCpu(a, v)` to a device register or to the ROM range. -/
  | write (a : Word) (v : Byte)
  deriving DecidableEq, Repr

/-- What an arithmetic instruction delivers: the byte written to A and the four flags (R131 to R134). -/
structure AluResult where
  value : Byte
  n : Bool
  v : Bool
  z : Bool
  c : Bool
  deriving DecidableEq, Repr, Inhabited

/-- FREE VALUE (U5, R53; DESIGN CHOICE, safe: log 4). What a device answers to a read of the register `a`, after the given history of
transactions (oldest first). Nothing constrains it; every read lengthens the history, so no two answers of one run are
tied to each other. -/
opaque Config.deviceRead (history : List BusEvent) (a : Word) : Byte

/-- FREE VALUE (U3; DESIGN CHOICE, safe: log 10). What decimal ADC leaves when a digit of A or of the operand is above 9, as a function of A, the
operand and the carry. Nothing constrains it. -/
opaque Config.adcInvalidBcd (a m : Byte) (c : Bool) : AluResult

/-- FREE VALUE (U3; DESIGN CHOICE, safe: log 10). What decimal SBC leaves when a digit of A or of the operand is above 9. -/
opaque Config.sbcInvalidBcd (a m : Byte) (c : Bool) : AluResult

end Sys2Proof
end

