-- ==== Sys2Proof/Machine/Platform.lean ====
section
/-! DEFINITION. The constants of R4 and the platform's address map (R68), as the spec gives them. -/

namespace Sys2Proof.Machine

/-- `VEC_NMI` (R4, R66, D1). -/
def vecNmi : Word := 0xFFFA

/-- `VEC_RESET` (R4, R66, D1). -/
def vecReset : Word := 0xFFFC

/-- `VEC_IRQ`, shared by IRQ and BRK (R4, R66, D1). -/
def vecIrq : Word := 0xFFFE

/-- `SP_RESET` (R4, R44, D2). -/
def spReset : Byte := 0xFD

/-- `CYC_INT`, the cycles an interrupt service returns (R4, R222, D3). -/
def cycInt : Nat := 7

/-- The stack location a stack pointer names, `0x0100 + SP` = `0x01 : SP` (R24, R61). -/
def stackAddr (sp : Byte) : Word := word 0x01 sp

/-- The defaults of the OPEN parameters (R4). -/
def defaultParams : Params := { decimal := .nmos, jmpIndWrap := true, brkPad := 1 }

/-- The console's map (R68): RAM mirrored every 0x0800, PPU registers mirrored every 8, APU/IO registers, the expansion range
(answered from outside, U5), and a 32 KB program ROM (the size is a DESIGN CHOICE, unsafe: log 3). -/
def consoleMap : BusMap :=
  [ { first := 0x0000, last := 0x1FFF, period := 0x0800, kind := .ram },
    { first := 0x2000, last := 0x3FFF, period := 8, kind := .device },
    { first := 0x4000, last := 0x401F, period := 0x20, kind := .device },
    { first := 0x4020, last := 0x7FFF, period := 0x3FE0, kind := .device },
    { first := 0x8000, last := 0xFFFF, period := 0x8000, kind := .rom } ]

/-- A platform whose whole address space is plain memory, as a test harness of the core alone may declare (R53, R63). -/
def flatMap : BusMap := [ { first := 0x0000, last := 0xFFFF, period := 0x10000, kind := .ram } ]

end Sys2Proof.Machine
end

