-- ==== Sys2Proof/Machine/State.lean ====
section
/-! DEFINITION. The state of the machine (10_state.md), the reasons a step can stop, and the state after reset (R44). -/

namespace Sys2Proof.Machine

/-- The six stored flags of P (R27, R28). The reserved bit and the break bit are not storage (R34, R35). -/
structure Flags where
  /-- N, negative: bit 7 of the image. -/
  n : Bool
  /-- V, overflow: bit 6. -/
  v : Bool
  /-- D, decimal: bit 3. -/
  d : Bool
  /-- I, interrupt-disable: bit 2. -/
  i : Bool
  /-- Z, zero: bit 1. -/
  z : Bool
  /-- C, carry: bit 0. -/
  c : Bool
  deriving DecidableEq, Repr

/-- The run state between calls (R40). -/
inductive RunState where
  /-- Created, `reset()` not yet called. -/
  | poweredOff
  | running
  /-- After a fatal error; left only by `reset()` (R243). -/
  | faulted
  deriving DecidableEq, Repr

/-- The cells of the Bus's memory: (cell, byte) pairs in the canonical form `Memory.wf`. -/
abbrev Memory := List Host.Cell

/-- All the state (R20, R37, R40, R50), and three fields of the model's own: `io`, `bus`, `params`. -/
structure State where
  /-- A, the accumulator (R21). -/
  a : Byte
  /-- X, an index register (R22). -/
  x : Byte
  /-- Y, an index register (R23). -/
  y : Byte
  /-- SP, the stack pointer, an offset from 0x0100 (R24). -/
  sp : Byte
  /-- PC: at an instruction boundary, the address of the next opcode byte (R25). -/
  pc : Word
  /-- P, the status register: its six stored flags (R27). -/
  p : Flags
  /-- `irq_pending` of the Interrupt Line (R37, R39). -/
  irqPending : Bool
  /-- `nmi_pending` of the Interrupt Line (R37, R38). -/
  nmiPending : Bool
  /-- The run state (R40). -/
  run : RunState
  /-- The RAM and ROM cells behind the bus (R50, R53). -/
  mem : Memory
  /-- The model's own: the transactions answered or received outside the modelled memory, oldest first (R53, R57; DESIGN CHOICE, safe: log 4). -/
  io : List BusEvent
  /-- The model's own: the platform's address map, fixed (R68; DESIGN CHOICE, unsafe: log 3). -/
  bus : BusMap
  /-- The model's own: the OPEN parameters, fixed (R4; DESIGN CHOICE, safe: log 8). -/
  params : Params
  deriving DecidableEq, Repr

/-- The two fatal faults (R10, R242). -/
inductive Fault where
  /-- Raised by `step` at decode: the byte fetched as an opcode is none of the 151 (R88, R240). As the spec says; safe. -/
  | illegalOpcode (op : Byte) (addr : Word)
  /-- Raised by a fetch or an access the platform's bus refuses (R52, R241); `left` is the state the earlier transactions of the
  call left, which the spec calls not precise (D20, U15; DEDUCED: log 9). A total bus never raises it. As the spec says; safe. -/
  | busFault (addr : Word) (left : State)
  deriving DecidableEq, Repr

/-- A `run()` call that has no step, and the name an instruction without a meaning is rejected by. -/
inductive Refusal where
  /-- Raised by `exec` for an instruction with no meaning in this model: there is none. Safe. -/
  | notModelled (mnemonic : String)
  /-- Raised by `step`: `run()` before the first `reset()` (R220, D12, U6). As the spec says; safe. -/
  | poweredOff
  /-- Raised by `step`: `run()` in Faulted, which has no step until `reset()` (R243, D13, U7). As the spec says; safe. -/
  | faulted
  deriving DecidableEq, Repr

/-- What an instruction or a step answers. -/
abbrev Result := Host.Outcome State Fault Refusal

/-- The machine as created, before the first `reset()` (R40, R262): registers the spec leaves unspecified hold values the model
names (log 1: A, X, Y, SP, PC and all six flags, I among them), no interrupt is pending (log 7), no memory is listed (log 5): each a
DESIGN CHOICE, unsafe. -/
def State.powerOn : State where
  a := 0x00
  x := 0x00
  y := 0x00
  sp := 0x00
  pc := 0x0000
  p := { n := false, v := false, d := false, i := false, z := false, c := false }
  irqPending := false
  nmiPending := false
  run := .poweredOff
  mem := []
  io := []
  bus := consoleMap
  params := defaultParams

/-- The machine right after the first `reset()` (R44, R260): SP = 0xFD, I = 1, Running; PC is the word at the reset vector, 0x0000
where no program is loaded (DESIGN CHOICE, safe: log 6). `resetCall State.powerOn` gives this state. -/
def State.reset : State :=
  { State.powerOn with
    sp := spReset
    pc := 0x0000
    p := { n := false, v := false, d := false, i := true, z := false, c := false }
    run := .running }

end Sys2Proof.Machine
end

