-- ==== Sys2Proof/Machine/Memory.lean ====
section
/-! DEFINITION. The memory behind the bus: sparse cells in one canonical form (R50; log 5). -/

namespace Sys2Proof.Machine

/-- What a cell that is not listed reads as (DESIGN CHOICE, unsafe: log 5; U5 leaves RAM that nothing has written open). The only place
this is decided. -/
def Memory.unlisted (_cell : Nat) : Byte := 0x00

/-- The byte of a cell. -/
def Memory.read : Memory → Nat → Byte
  | [], k => Memory.unlisted k
  | (j, b) :: m, k => if j = k then b else Memory.read m k

/-- Puts a cell into a rising list, replacing the cell's entry. -/
def Memory.insert : Memory → Nat → Byte → Memory
  | [], k, v => [(k, v)]
  | (j, b) :: m, k, v =>
    if k < j then (k, v) :: (j, b) :: m
    else if j = k then (k, v) :: m
    else (j, b) :: Memory.insert m k v

/-- Removes a cell's entry. -/
def Memory.erase : Memory → Nat → Memory
  | [], _ => []
  | (j, b) :: m, k => if j = k then m else (j, b) :: Memory.erase m k

/-- Writes a cell. Writing what an unlisted cell reads as removes the entry, so that equal memories are equal lists. -/
def Memory.write (m : Memory) (k : Nat) (v : Byte) : Memory :=
  if v = Memory.unlisted k then Memory.erase m k else Memory.insert m k v

/-- Every key of the list is above `k`, or the list is empty. -/
def Memory.above (k : Nat) : Memory → Bool
  | [] => true
  | (j, _) :: _ => decide (k < j)

/-- The canonical form: keys strictly rising and below 65536 (R50), no entry equal to what an unlisted cell reads as. -/
def Memory.wf : Memory → Bool
  | [] => true
  | (j, b) :: m => decide (j < 65536) && decide (b ≠ Memory.unlisted j) && Memory.above j m && Memory.wf m

end Sys2Proof.Machine
end

