-- ==== Sys2Proof/Machine/Ops.lean ====
section
/-! DEFINITION. The named operations over memory and registers: the bus (R51 to R53, R68), the status byte (R30, R31), the stack
(R62 to R65), the vectors (R66), and taking and leaving a trap (R176, R222, R175). -/

namespace Sys2Proof.Machine

/-! Named writes of one field each. -/

/-- A <- v. -/
def State.withA (s : State) (v : Byte) : State := { s with a := v }

/-- X <- v. -/
def State.withX (s : State) (v : Byte) : State := { s with x := v }

/-- Y <- v. -/
def State.withY (s : State) (v : Byte) : State := { s with y := v }

/-- SP <- v. -/
def State.withSp (s : State) (v : Byte) : State := { s with sp := v }

/-- PC <- v. -/
def State.withPc (s : State) (v : Word) : State := { s with pc := v }

/-- All six stored flags. -/
def State.withP (s : State) (v : Flags) : State := { s with p := v }

/-- `irq_pending` <- v. -/
def State.withIrqPending (s : State) (v : Bool) : State := { s with irqPending := v }

/-- `nmi_pending` <- v. -/
def State.withNmiPending (s : State) (v : Bool) : State := { s with nmiPending := v }

/-- The run state. -/
def State.withRun (s : State) (v : RunState) : State := { s with run := v }

/-- The cells. -/
def State.withMem (s : State) (v : Memory) : State := { s with mem := v }

/-- The history of outside transactions. -/
def State.withIo (s : State) (v : List BusEvent) : State := { s with io := v }

/-- The flags with I set (R176, R222, R260). -/
def Flags.setI (p : Flags) : Flags := { p with i := true }

/-- Where the bus routes an address (R53, R68). -/
inductive Route where
  /-- A cell of plain memory. -/
  | ram (cell : Nat)
  /-- A cell of the program ROM. -/
  | rom (cell : Nat)
  /-- A register of a device, named by the lowest address it is mirrored from. -/
  | device (reg : Word)
  /-- No region holds the address: the bus refuses it (R52, R241). -/
  | refused
  deriving DecidableEq, Repr

/-- The cell or register of a region that an address in it names: the region is mirrored every `period` (R68). -/
def regionCell (r : Region) (a : Nat) : Nat := r.first + (a - r.first) % r.period

/-- Where an address of a region goes. -/
def regionRoute (r : Region) (a : Nat) : Route :=
  match r.kind with
  | .ram => .ram (regionCell r a)
  | .rom => .rom (regionCell r a)
  | .device => .device (BitVec.ofNat 16 (regionCell r a))

/-- The routing of an address by a map: the first region that holds it (R68). -/
def routeIn : BusMap → Nat → Route
  | [], _ => .refused
  | r :: rs, a => if r.first ≤ a ∧ a ≤ r.last then regionRoute r a else routeIn rs a

/-- Where the machine's bus routes an address. -/
def State.route (s : State) (addr : Word) : Route := routeIn s.bus addr.toNat

/-- The bus refuses the address (R52, R241). -/
def State.refuses (s : State) (addr : Word) : Bool := s.route addr == .refused

/-- What the bus answers to a read of the address in this state (R53): a cell's byte, or the free value of a device (U5). -/
def State.peek (s : State) (addr : Word) : Byte :=
  match s.route addr with
  | .ram k => s.mem.read k
  | .rom k => s.mem.read k
  | .device r => Config.deviceRead s.io r
  | .refused => 0x00

/-- The state after a read of the address: a device has seen it (R57). That its side effect changes no RAM or ROM cell within the call,
which R72 leaves open, is the model's choice (DESIGN CHOICE, unsafe: log 15). -/
def State.afterRead (s : State) (addr : Word) : State :=
  match s.route addr with
  | .device r => s.withIo (s.io ++ [.read r])
  | .ram _ => s
  | .rom _ => s
  | .refused => s

/-- The state after a write of the address (R53, R57): RAM holds the byte; a write to ROM or to a device is issued and what it does
is not the core's business (R68, U8). That it changes no cell within the call is the model's choice (DESIGN CHOICE, unsafe: log 3 for
ROM; log 15 for a device, whose side effects R72 leaves open). -/
def State.poke (s : State) (addr : Word) (v : Byte) : State :=
  match s.route addr with
  | .ram k => s.withMem (s.mem.write k v)
  | .rom k => s.withIo (s.io ++ [.write (BitVec.ofNat 16 k) v])
  | .device r => s.withIo (s.io ++ [.write r v])
  | .refused => s

/-- What a sequence of bus transactions delivers: a value and the state after it, or the address the bus refused and the state the
earlier transactions left (R241, D20). -/
inductive Access (α : Type) where
  | ok (value : α) (s : State)
  | refused (addr : Word) (s : State)
  deriving DecidableEq, Repr

/-- First `x`, then `f` on its value and state; a refusal ends the sequence. -/
def Access.bind {α β : Type} (x : Access α) (f : α → State → Access β) : Access β :=
  match x with
  | .ok v s => f v s
  | .refused addr s => .refused addr s

/-- The end of an instruction: its next state, or `BusFault` with what it left (R241). -/
def finish (x : Access Unit) : Result :=
  match x with
  | .ok _ s => .next s
  | .refused addr s => .fault (.busFault addr s)

/-- `MemRead(addr, 1)` (R8, R51). -/
def busRead (s : State) (addr : Word) : Access Byte :=
  if s.refuses addr then .refused addr s else .ok (s.peek addr) (s.afterRead addr)

/-- `MemWrite(addr, 1, v)` (R8, R51). -/
def busWrite (s : State) (addr : Word) (v : Byte) : Access Unit :=
  if s.refuses addr then .refused addr s else .ok () (s.poke addr v)

/-- Two reads, the low byte at `addrLo`, then the high byte at `addrHi` (R54, R59). -/
def readWord (s : State) (addrLo addrHi : Word) : Access Word :=
  (busRead s addrLo).bind fun l t => (busRead t addrHi).bind fun h u => .ok (word h l) u

/-- PC moved past `n` instruction bytes, modulo 65536 (R25, R60). -/
def State.advance (s : State) (n : Nat) : State := s.withPc (s.pc + BitVec.ofNat 16 n)

/-- `PByte(b)`: the byte pushed for P, with the reserved bit 1 and the given break bit (R28, R30, R34). -/
def Flags.pbyte (p : Flags) (brk : Bool) : Byte :=
  BitVec.ofNat 8 (128 * bitNat p.n + 64 * bitNat p.v + 32 + 16 * bitNat brk + 8 * bitNat p.d + 4 * bitNat p.i +
    2 * bitNat p.z + bitNat p.c)

/-- `SetP(v)`: the flags of a pulled byte; bits 5 and 4 are ignored (R31). -/
def Flags.ofByte (v : Byte) : Flags :=
  { n := bit v 7, v := bit v 6, d := bit v 3, i := bit v 2, z := bit v 1, c := bit v 0 }

/-- `Push(v)`: store at 0x0100 + SP, then decrement SP (R62). -/
def push (s : State) (v : Byte) : Access Unit :=
  (busWrite s (stackAddr s.sp) v).bind fun _ t => .ok () (t.withSp (t.sp - 1))

/-- `Pull()`: increment SP, then load from 0x0100 + SP (R63). -/
def pull (s : State) : Access Byte :=
  busRead (s.withSp (s.sp + 1)) (stackAddr (s.sp + 1))

/-- A 16-bit value is pushed high byte first (R64). -/
def pushWord (s : State) (w : Word) : Access Unit :=
  (push s (hi8 w)).bind fun _ t => push t (lo8 w)

/-- A 16-bit value is pulled low byte first (R65). -/
def pullWord (s : State) : Access Word :=
  (pull s).bind fun l t => (pull t).bind fun h u => .ok (word h l) u

/-- PC from a vector: its low byte, then its high byte, read at the time of use (R66, R231). -/
def loadVector (s : State) (vec : Word) : Access Unit :=
  (readWord s vec (vec + 1)).bind fun w t => .ok () (t.withPc w)

/-- TAKING A TRAP, shared by NMI, IRQ and BRK (R222, R176, R230): push PC, push P with the given break bit, set I, load PC from the
vector. -/
def enterTrap (s : State) (brk : Bool) (vec : Word) : Access Unit :=
  (pushWord s s.pc).bind fun _ t =>
    (push t (t.p.pbyte brk)).bind fun _ u =>
      loadVector (u.withP u.p.setI) vec

/-- RETURNING FROM A TRAP (R175, R232): pull P, then PC, with no adjustment. -/
def returnFromTrap (s : State) : Access Unit :=
  (pull s).bind fun v t =>
    (pullWord (t.withP (Flags.ofByte v))).bind fun w u => .ok () (u.withPc w)

/-- `Service(vec, clear)` for NMI: the trap, then `nmi_pending` is cleared (R222, R223). -/
def serviceNmi (s : State) : Access Unit :=
  (enterTrap s false vecNmi).bind fun _ t => .ok () (t.withNmiPending false)

/-- `Service(vec, clear)` for IRQ: the trap, then `irq_pending` is cleared (R222, R225). -/
def serviceIrq (s : State) : Access Unit :=
  (enterTrap s false vecIrq).bind fun _ t => .ok () (t.withIrqPending false)

end Sys2Proof.Machine
end

