-- ==== Sys2Proof/Machine/Owner.lean ====
section
/-! DEFINITION. What the owner and the collaborators can do between two calls of `run()` (R251): reset, the interrupt line, inspection,
and bytes placed in memory from outside. -/

namespace Sys2Proof.Machine

/-- `reset()` (R260, R261), in any run state; on a refused vector read the call is aborted and the machine is Faulted (R241). -/
def resetCall (s : State) : Access Unit :=
  match loadVector ((s.withP s.p.setI).withSp spReset) vecReset with
  | .ok _ t => .ok () (t.withRun .running)
  | .refused addr t => .refused addr (t.withRun .faulted)

/-- `assertIrq()` (R37, R39). -/
def assertIrq (s : State) : State := s.withIrqPending true

/-- `deassertIrq()` (R37, R39). -/
def deassertIrq (s : State) : State := s.withIrqPending false

/-- `assertNmi()` (R37, R38); there is no call that takes it back. -/
def assertNmi (s : State) : State := s.withNmiPending true

/-- A byte put into the cell an address names, RAM or ROM, by another agent than the core (R71, R251, R263). Nothing where no cell
is. -/
def State.loadByte (s : State) (addr : Word) (v : Byte) : State :=
  match s.route addr with
  | .ram k => s.withMem (s.mem.write k v)
  | .rom k => s.withMem (s.mem.write k v)
  | .device _ => s
  | .refused => s

/-- Bytes at ascending addresses (R263). -/
def State.loadBytes : State → Word → List Byte → State
  | s, _, [] => s
  | s, addr, b :: bs => (s.loadByte addr b).loadBytes (addr + 1) bs

/-- The externally inspectable register file (R20, R35, R43), with the eight Boolean flags of P. -/
structure Inspection where
  a : Byte
  x : Byte
  y : Byte
  sp : Byte
  pc : Word
  negative : Bool
  overflow : Bool
  reserved : Bool
  breakFlag : Bool
  decimal : Bool
  interruptDisable : Bool
  zero : Bool
  carry : Bool
  deriving DecidableEq, Repr

/-- What inspection reads: the reserved flag 1 (R34), the break flag 0 (R35, D8). It has no effect on the machine (R249). -/
def inspect (s : State) : Inspection :=
  { a := s.a, x := s.x, y := s.y, sp := s.sp, pc := s.pc, negative := s.p.n, overflow := s.p.v, reserved := true, breakFlag := false,
    decimal := s.p.d, interruptDisable := s.p.i, zero := s.p.z, carry := s.p.c }

end Sys2Proof.Machine
end

