-- ==== Sys2Proof/Machine/Place.lean ====
section
/-! DEFINITION. Placing an instruction where the next fetch reads it, for `State.withFetchWord` (DESIGN CHOICE, safe: log 6). -/

namespace Sys2Proof.Machine

/-- The address names a cell of the modelled memory. -/
def State.hasCell (s : State) (addr : Word) : Bool :=
  match s.route addr with
  | .ram _ => true
  | .rom _ => true
  | .device _ => false
  | .refused => false

/-- The state in which the next `run()` fetches an instruction at PC: Running, and no interrupt that would be serviced first. PC is kept
where the three bytes from it are cells of memory; else it becomes 0x0000, which the console's map gives to RAM. -/
def State.readyToFetch (s : State) : State :=
  { s with
    run := .running
    nmiPending := false
    irqPending := s.irqPending && s.p.i
    pc := if s.hasCell s.pc && s.hasCell (s.pc + 1) && s.hasCell (s.pc + 2) then s.pc else 0x0000 }

/-- The instruction numbered as the opcode table numbers it, placed at PC by the loader. -/
def State.place (s : State) (nbits w : Nat) : State :=
  s.readyToFetch.loadBytes s.readyToFetch.pc (tableBytes nbits w)

end Sys2Proof.Machine
end

