-- ==== Sys2Proof/Machine/Flags.lean ====
section
/-! DEFINITION. Every flag computation: SetZN (R32), binary and decimal arithmetic (R130 to R134), shifts (R141 to R144), compares
(R150), BIT (R138), and the branch conditions (R156 to R163). -/

namespace Sys2Proof.Machine

/-- `SetZN(v)` (R32). -/
def Flags.setZN (p : Flags) (v : Byte) : Flags := { p with z := v == 0, n := bit v 7 }

/-- `A <- v; SetZN(v)` (R120, R181, R202, R203). -/
def loadA (v : Byte) (s : State) : State := (s.withA v).withP (s.p.setZN v)

/-- `X <- v; SetZN(v)` (R121, R200, R204, R206, R208). -/
def loadX (v : Byte) (s : State) : State := (s.withX v).withP (s.p.setZN v)

/-- `Y <- v; SetZN(v)` (R122, R201, R207, R209). -/
def loadY (v : Byte) (s : State) : State := (s.withY v).withP (s.p.setZN v)

/-- The four flags of an arithmetic result written to P (R131 to R134). -/
def Flags.setArith (p : Flags) (r : AluResult) : Flags := { p with n := r.n, v := r.v, z := r.z, c := r.c }

/-- ADC, binary (R131). -/
def adcBinary (a m : Byte) (c : Bool) : AluResult :=
  let s := a.toNat + m.toNat + bitNat c
  let r : Byte := BitVec.ofNat 8 s
  { value := r, n := bit r 7, v := ((a ^^^ r) &&& (m ^^^ r) &&& 0x80) != 0, z := r == 0, c := decide (s > 255) }

/-- The low decimal digit sum of ADC, corrected, with its carry in bit 4 (`al` of R132). -/
def adcLowDigit (a m : Byte) (c : Bool) : Nat :=
  let al := (a.toNat &&& 0x0F) + (m.toNat &&& 0x0F) + bitNat c
  if al ≥ 0x0A then ((al + 0x06) &&& 0x0F) + 0x10 else al

/-- The sum of the high digits and the low sum, before the last correction (`t` of R132). -/
def adcHighSum (a m : Byte) (c : Bool) : Nat :=
  (a.toNat &&& 0xF0) + (m.toNat &&& 0xF0) + adcLowDigit a m c

/-- ADC, decimal (R132): A and C are decimal, Z is that of the binary sum, N and V come from the intermediate sum. -/
def adcDecimal (a m : Byte) (c : Bool) : AluResult :=
  let b := (a.toNat + m.toNat + bitNat c) % 256
  let t := adcHighSum a m c
  let t' := if t ≥ 0xA0 then t + 0x60 else t
  { value := BitVec.ofNat 8 t', n := t.testBit 7, v := ((a.toNat ^^^ t) &&& (m.toNat ^^^ t) &&& 0x80) != 0, z := b == 0,
    c := decide (t' ≥ 0x100) }

/-- SBC, binary (R133). -/
def sbcBinary (a m : Byte) (c : Bool) : AluResult :=
  let d : Int := (a.toNat : Int) - m.toNat - (1 - bitNat c)
  let r : Byte := BitVec.ofInt 8 d
  { value := r, n := bit r 7, v := ((a ^^^ m) &&& (a ^^^ r) &&& 0x80) != 0, z := r == 0, c := decide (d ≥ 0) }

/-- The low decimal digit difference of SBC, corrected (`al` of R134). -/
def sbcLowDigit (a m : Byte) (c : Bool) : Int :=
  let al : Int := ((a.toNat &&& 0x0F : Nat) : Int) - ((m.toNat &&& 0x0F : Nat) : Int) + bitNat c - 1
  if al < 0 then (al - 0x06) % 16 - 0x10 else al

/-- The byte decimal SBC writes to A (`t` of R134). -/
def sbcDecimalByte (a m : Byte) (c : Bool) : Byte :=
  let t : Int := ((a.toNat &&& 0xF0 : Nat) : Int) - ((m.toNat &&& 0xF0 : Nat) : Int) + sbcLowDigit a m c
  BitVec.ofInt 8 (if t < 0 then t - 0x60 else t)

/-- SBC, decimal (R134): the four flags are those of the binary subtraction, only the byte differs. -/
def sbcDecimal (a m : Byte) (c : Bool) : AluResult :=
  { sbcBinary a m c with value := sbcDecimalByte a m c }

/-- Both digits of a byte are 0 to 9 (R132, U3). -/
def validBcd (b : Byte) : Bool := decide (b.toNat % 16 ≤ 9) && decide (b.toNat / 16 ≤ 9)

/-- P.D = 1 is decimal arithmetic under the parameter `DECIMAL` (R131 to R134, D4). -/
def decimalMode (params : Params) (p : Flags) : Bool := p.d && params.decimal == .nmos

/-- ADC (R131, R132); a digit above 9 in decimal mode leaves a free value (U3; DESIGN CHOICE, safe: log 10). -/
def adcResult (params : Params) (p : Flags) (a m : Byte) : AluResult :=
  if decimalMode params p then
    if validBcd a && validBcd m then adcDecimal a m p.c else Config.adcInvalidBcd a m p.c
  else adcBinary a m p.c

/-- SBC (R133, R134); a digit above 9 in decimal mode leaves a free value (U3; DESIGN CHOICE, safe: log 10). -/
def sbcResult (params : Params) (p : Flags) (a m : Byte) : AluResult :=
  if decimalMode params p then
    if validBcd a && validBcd m then sbcDecimal a m p.c else Config.sbcInvalidBcd a m p.c
  else sbcBinary a m p.c

/-- What a shift or rotate delivers: the byte and the carry out (R140). -/
structure Shifted where
  value : Byte
  carry : Bool
  deriving DecidableEq, Repr

/-- `f` of ASL (R141). -/
def aslByte (v : Byte) (_c : Bool) : Shifted := { value := v <<< 1, carry := bit v 7 }

/-- `f` of LSR (R142). -/
def lsrByte (v : Byte) (_c : Bool) : Shifted := { value := v >>> 1, carry := bit v 0 }

/-- `f` of ROL (R143): the old carry enters bit 0. -/
def rolByte (v : Byte) (c : Bool) : Shifted :=
  { value := (v <<< 1) ||| BitVec.ofNat 8 (bitNat c), carry := bit v 7 }

/-- `f` of ROR (R144): the old carry enters bit 7. -/
def rorByte (v : Byte) (c : Bool) : Shifted :=
  { value := (v >>> 1) ||| BitVec.ofNat 8 (128 * bitNat c), carry := bit v 0 }

/-- The flags of a shift or rotate: C is the bit shifted out, Z and N are those of the result (R140). -/
def Flags.setShift (p : Flags) (r : Shifted) : Flags := { p.setZN r.value with c := r.carry }

/-- The flags of `Compare(reg)` (R150): C when reg >= m unsigned, Z when equal, N from the difference. -/
def Flags.setCompare (p : Flags) (reg m : Byte) : Flags :=
  { p with c := decide (reg.toNat ≥ m.toNat), z := reg == m, n := bit (reg - m) 7 }

/-- The flags of BIT (R138): Z from A & m, N and V from m. -/
def Flags.setBit (p : Flags) (a m : Byte) : Flags :=
  { p with z := (a &&& m) == 0, n := bit m 7, v := bit m 6 }

/-- The condition a branch mnemonic tests (R156 to R163); false for the mnemonics that do not branch. -/
def branchCondition (m : Mnemonic) (p : Flags) : Bool :=
  match m with
  | .bcc => !p.c
  | .bcs => p.c
  | .beq => p.z
  | .bne => !p.z
  | .bmi => p.n
  | .bpl => !p.n
  | .bvc => !p.v
  | .bvs => p.v
  | _ => false

end Sys2Proof.Machine
end

