-- ==== Sys2Proof/Machine/Operands.lean ====
section
/-! DEFINITION. The addressing-mode resolver (40_addressing_modes.md) and the shapes in which an executor uses it: read-type, store
and read-modify-write (R58). -/

namespace Sys2Proof.Machine

/-- What the resolver delivers: the effective address and the page-cross bit (R100). -/
structure Resolved where
  ea : Word
  cross : Bool
  deriving DecidableEq, Repr

/-- The address is in another page than its base (R113). -/
def crosses (base ea : Word) : Bool := hi8 ea != hi8 base

/-- A 16-bit base and an 8-bit index, added modulo 65536 (R106, R107, R110). -/
def indexed (base : Word) (index : Byte) : Resolved :=
  { ea := base + zext16 index, cross := crosses base (base + zext16 index) }

/-- An address in page 0 (R102). -/
def zeroPage (d : Byte) : Word := word 0x00 d

/-- The address of the second byte of a JMP (indirect) pointer (R59, R108): in the pointer's own page when `JMP_IND_WRAP`. -/
def indirectHigh (wrap : Bool) (ptr : Word) : Word :=
  if wrap then word (hi8 ptr) (lo8 ptr + 1) else ptr + 1

/-- `Operand(mode)` (R100 to R114) in the state whose PC is already past the operand bytes: pointer bytes are read low then high,
nothing but PC has been written. -/
def resolve (m : MemOperand) (s : State) : Access Resolved :=
  match m with
  | .zp d => .ok { ea := zeroPage d, cross := false } s
  | .zpx d => .ok { ea := zeroPage (d + s.x), cross := false } s
  | .zpy d => .ok { ea := zeroPage (d + s.y), cross := false } s
  | .abs w => .ok { ea := w, cross := false } s
  | .absx w => .ok (indexed w s.x) s
  | .absy w => .ok (indexed w s.y) s
  | .ind w =>
    (readWord s w (indirectHigh s.params.jmpIndWrap w)).bind fun t u => .ok { ea := t, cross := false } u
  | .indx d =>
    (readWord s (zeroPage (d + s.x)) (zeroPage (d + s.x + 1))).bind fun t u => .ok { ea := t, cross := false } u
  | .indy d =>
    (readWord s (zeroPage d) (zeroPage (d + 1))).bind fun base u => .ok (indexed base u.y) u
  | .rel d => .ok { ea := s.pc + sext16 d, cross := crosses s.pc (s.pc + sext16 d) } s

/-- A read-type instruction in immediate mode: its operand byte was read once, with the instruction (R101, D27; DEDUCED, safe: log 13). -/
def readImm (use : Byte → State → State) (v : Byte) (s : State) : Result :=
  finish (.ok () (use v (s.advance 2)))

/-- A read-type instruction with a memory operand: one data read at the effective address (R58). -/
def readMem (use : Byte → State → State) (m : MemOperand) (s : State) : Result :=
  finish ((resolve m (s.advance m.mode.length)).bind fun r t =>
    (busRead t r.ea).bind fun v u => .ok () (use v u))

/-- A store: one data write at the effective address, the operand is not read (R57, R123 to R125). -/
def storeMem (value : State → Byte) (m : MemOperand) (s : State) : Result :=
  finish ((resolve m (s.advance m.mode.length)).bind fun r t => busWrite t r.ea (value t))

/-- A one-byte instruction that only changes registers and flags (R111). -/
def implied (change : State → State) (s : State) : Result :=
  finish (.ok () (change (s.advance 1)))

end Sys2Proof.Machine
end

