-- ==== Sys2Proof/Machine/Arithmetic.lean ====
section
/-! DEFINITION. ADC, SBC, AND, ORA, EOR, BIT (42_arithmetic_logic.md). -/

namespace Sys2Proof.Machine

/-- `A` and the four flags from an arithmetic result (R131 to R134). -/
def setArith (r : AluResult) (s : State) : State := (s.withA r.value).withP (s.p.setArith r)

/-- ADC of the operand byte (R131, R132). -/
def adcA (m : Byte) (s : State) : State := setArith (adcResult s.params s.p s.a m) s

/-- SBC of the operand byte (R133, R134). -/
def sbcA (m : Byte) (s : State) : State := setArith (sbcResult s.params s.p s.a m) s

/-- AND of the operand byte (R135). -/
def andA (m : Byte) (s : State) : State := loadA (s.a &&& m) s

/-- ORA of the operand byte (R136). -/
def oraA (m : Byte) (s : State) : State := loadA (s.a ||| m) s

/-- EOR of the operand byte (R137). -/
def eorA (m : Byte) (s : State) : State := loadA (s.a ^^^ m) s

/-- BIT of the operand byte (R138); A is not changed. -/
def bitA (m : Byte) (s : State) : State := s.withP (s.p.setBit s.a m)

/-- 61 ADC (zero-page,X) (R131, R132, R109). -/
def execAdcIndx (d : Byte) (s : State) : Result := readMem adcA (.indx d) s

/-- 65 ADC zero-page (R131, R132, R102). -/
def execAdcZp (d : Byte) (s : State) : Result := readMem adcA (.zp d) s

/-- 69 ADC immediate (R131, R132, R101). -/
def execAdcImm (v : Byte) (s : State) : Result := readImm adcA v s

/-- 6D ADC absolute (R131, R132, R105). -/
def execAdcAbs (w : Word) (s : State) : Result := readMem adcA (.abs w) s

/-- 71 ADC (zero-page),Y (R131, R132, R110). -/
def execAdcIndy (d : Byte) (s : State) : Result := readMem adcA (.indy d) s

/-- 75 ADC zero-page,X (R131, R132, R103). -/
def execAdcZpx (d : Byte) (s : State) : Result := readMem adcA (.zpx d) s

/-- 79 ADC absolute,Y (R131, R132, R107). -/
def execAdcAbsy (w : Word) (s : State) : Result := readMem adcA (.absy w) s

/-- 7D ADC absolute,X (R131, R132, R106). -/
def execAdcAbsx (w : Word) (s : State) : Result := readMem adcA (.absx w) s

/-- E1 SBC (zero-page,X) (R133, R134, R109). -/
def execSbcIndx (d : Byte) (s : State) : Result := readMem sbcA (.indx d) s

/-- E5 SBC zero-page (R133, R134, R102). -/
def execSbcZp (d : Byte) (s : State) : Result := readMem sbcA (.zp d) s

/-- E9 SBC immediate (R133, R134, R101). -/
def execSbcImm (v : Byte) (s : State) : Result := readImm sbcA v s

/-- ED SBC absolute (R133, R134, R105). -/
def execSbcAbs (w : Word) (s : State) : Result := readMem sbcA (.abs w) s

/-- F1 SBC (zero-page),Y (R133, R134, R110). -/
def execSbcIndy (d : Byte) (s : State) : Result := readMem sbcA (.indy d) s

/-- F5 SBC zero-page,X (R133, R134, R103). -/
def execSbcZpx (d : Byte) (s : State) : Result := readMem sbcA (.zpx d) s

/-- F9 SBC absolute,Y (R133, R134, R107). -/
def execSbcAbsy (w : Word) (s : State) : Result := readMem sbcA (.absy w) s

/-- FD SBC absolute,X (R133, R134, R106). -/
def execSbcAbsx (w : Word) (s : State) : Result := readMem sbcA (.absx w) s

/-- 21 AND (zero-page,X) (R135, R109). -/
def execAndIndx (d : Byte) (s : State) : Result := readMem andA (.indx d) s

/-- 25 AND zero-page (R135, R102). -/
def execAndZp (d : Byte) (s : State) : Result := readMem andA (.zp d) s

/-- 29 AND immediate (R135, R101). -/
def execAndImm (v : Byte) (s : State) : Result := readImm andA v s

/-- 2D AND absolute (R135, R105). -/
def execAndAbs (w : Word) (s : State) : Result := readMem andA (.abs w) s

/-- 31 AND (zero-page),Y (R135, R110). -/
def execAndIndy (d : Byte) (s : State) : Result := readMem andA (.indy d) s

/-- 35 AND zero-page,X (R135, R103). -/
def execAndZpx (d : Byte) (s : State) : Result := readMem andA (.zpx d) s

/-- 39 AND absolute,Y (R135, R107). -/
def execAndAbsy (w : Word) (s : State) : Result := readMem andA (.absy w) s

/-- 3D AND absolute,X (R135, R106). -/
def execAndAbsx (w : Word) (s : State) : Result := readMem andA (.absx w) s

/-- 01 ORA (zero-page,X) (R136, R109). -/
def execOraIndx (d : Byte) (s : State) : Result := readMem oraA (.indx d) s

/-- 05 ORA zero-page (R136, R102). -/
def execOraZp (d : Byte) (s : State) : Result := readMem oraA (.zp d) s

/-- 09 ORA immediate (R136, R101). -/
def execOraImm (v : Byte) (s : State) : Result := readImm oraA v s

/-- 0D ORA absolute (R136, R105). -/
def execOraAbs (w : Word) (s : State) : Result := readMem oraA (.abs w) s

/-- 11 ORA (zero-page),Y (R136, R110). -/
def execOraIndy (d : Byte) (s : State) : Result := readMem oraA (.indy d) s

/-- 15 ORA zero-page,X (R136, R103). -/
def execOraZpx (d : Byte) (s : State) : Result := readMem oraA (.zpx d) s

/-- 19 ORA absolute,Y (R136, R107). -/
def execOraAbsy (w : Word) (s : State) : Result := readMem oraA (.absy w) s

/-- 1D ORA absolute,X (R136, R106). -/
def execOraAbsx (w : Word) (s : State) : Result := readMem oraA (.absx w) s

/-- 41 EOR (zero-page,X) (R137, R109). -/
def execEorIndx (d : Byte) (s : State) : Result := readMem eorA (.indx d) s

/-- 45 EOR zero-page (R137, R102). -/
def execEorZp (d : Byte) (s : State) : Result := readMem eorA (.zp d) s

/-- 49 EOR immediate (R137, R101). -/
def execEorImm (v : Byte) (s : State) : Result := readImm eorA v s

/-- 4D EOR absolute (R137, R105). -/
def execEorAbs (w : Word) (s : State) : Result := readMem eorA (.abs w) s

/-- 51 EOR (zero-page),Y (R137, R110). -/
def execEorIndy (d : Byte) (s : State) : Result := readMem eorA (.indy d) s

/-- 55 EOR zero-page,X (R137, R103). -/
def execEorZpx (d : Byte) (s : State) : Result := readMem eorA (.zpx d) s

/-- 59 EOR absolute,Y (R137, R107). -/
def execEorAbsy (w : Word) (s : State) : Result := readMem eorA (.absy w) s

/-- 5D EOR absolute,X (R137, R106). -/
def execEorAbsx (w : Word) (s : State) : Result := readMem eorA (.absx w) s

/-- 24 BIT zero-page (R138, R102). -/
def execBitZp (d : Byte) (s : State) : Result := readMem bitA (.zp d) s

/-- 2C BIT absolute (R138, R105). -/
def execBitAbs (w : Word) (s : State) : Result := readMem bitA (.abs w) s

end Sys2Proof.Machine
end

