-- ==== Sys2Proof/Machine/Branch.lean ====
section
/-! DEFINITION. The eight conditional branches (45_branch.md). -/

namespace Sys2Proof.Machine

/-- `Branch(cond)` (R155): the displacement is always fetched; PC becomes the target when the condition holds. -/
def branchIf (cond : Bool) (d : Byte) (s : State) : Result :=
  finish ((resolve (.rel d) (s.advance 2)).bind fun r t => .ok () (if cond then t.withPc r.ea else t))

/-- 90 BCC relative (R156, R155, R112). -/
def execBcc (d : Byte) (s : State) : Result := branchIf (branchCondition .bcc s.p) d s

/-- B0 BCS relative (R157, R155, R112). -/
def execBcs (d : Byte) (s : State) : Result := branchIf (branchCondition .bcs s.p) d s

/-- F0 BEQ relative (R158, R155, R112). -/
def execBeq (d : Byte) (s : State) : Result := branchIf (branchCondition .beq s.p) d s

/-- D0 BNE relative (R159, R155, R112). -/
def execBne (d : Byte) (s : State) : Result := branchIf (branchCondition .bne s.p) d s

/-- 30 BMI relative (R160, R155, R112). -/
def execBmi (d : Byte) (s : State) : Result := branchIf (branchCondition .bmi s.p) d s

/-- 10 BPL relative (R161, R155, R112). -/
def execBpl (d : Byte) (s : State) : Result := branchIf (branchCondition .bpl s.p) d s

/-- 50 BVC relative (R162, R155, R112). -/
def execBvc (d : Byte) (s : State) : Result := branchIf (branchCondition .bvc s.p) d s

/-- 70 BVS relative (R163, R155, R112). -/
def execBvs (d : Byte) (s : State) : Result := branchIf (branchCondition .bvs s.p) d s

end Sys2Proof.Machine
end

