-- ==== Sys2Proof/Machine/Compare.lean ====
section
/-! DEFINITION. CMP, CPX, CPY (44_compare.md). -/

namespace Sys2Proof.Machine

/-- `Compare(reg)` (R150) on the operand byte: only C, Z and N are written. -/
def compareWith (reg : State → Byte) (m : Byte) (s : State) : State := s.withP (s.p.setCompare (reg s) m)

/-- C1 CMP (zero-page,X) (R151, R150, R109). -/
def execCmpIndx (d : Byte) (s : State) : Result := readMem (compareWith State.a) (.indx d) s

/-- C5 CMP zero-page (R151, R150, R102). -/
def execCmpZp (d : Byte) (s : State) : Result := readMem (compareWith State.a) (.zp d) s

/-- C9 CMP immediate (R151, R150, R101). -/
def execCmpImm (v : Byte) (s : State) : Result := readImm (compareWith State.a) v s

/-- CD CMP absolute (R151, R150, R105). -/
def execCmpAbs (w : Word) (s : State) : Result := readMem (compareWith State.a) (.abs w) s

/-- D1 CMP (zero-page),Y (R151, R150, R110). -/
def execCmpIndy (d : Byte) (s : State) : Result := readMem (compareWith State.a) (.indy d) s

/-- D5 CMP zero-page,X (R151, R150, R103). -/
def execCmpZpx (d : Byte) (s : State) : Result := readMem (compareWith State.a) (.zpx d) s

/-- D9 CMP absolute,Y (R151, R150, R107). -/
def execCmpAbsy (w : Word) (s : State) : Result := readMem (compareWith State.a) (.absy w) s

/-- DD CMP absolute,X (R151, R150, R106). -/
def execCmpAbsx (w : Word) (s : State) : Result := readMem (compareWith State.a) (.absx w) s

/-- E0 CPX immediate (R152, R150, R101). -/
def execCpxImm (v : Byte) (s : State) : Result := readImm (compareWith State.x) v s

/-- E4 CPX zero-page (R152, R150, R102). -/
def execCpxZp (d : Byte) (s : State) : Result := readMem (compareWith State.x) (.zp d) s

/-- EC CPX absolute (R152, R150, R105). -/
def execCpxAbs (w : Word) (s : State) : Result := readMem (compareWith State.x) (.abs w) s

/-- C0 CPY immediate (R153, R150, R101). -/
def execCpyImm (v : Byte) (s : State) : Result := readImm (compareWith State.y) v s

/-- C4 CPY zero-page (R153, R150, R102). -/
def execCpyZp (d : Byte) (s : State) : Result := readMem (compareWith State.y) (.zp d) s

/-- CC CPY absolute (R153, R150, R105). -/
def execCpyAbs (w : Word) (s : State) : Result := readMem (compareWith State.y) (.abs w) s

end Sys2Proof.Machine
end

