-- ==== Sys2Proof/Machine/FlagOps.lean ====
section
/-! DEFINITION. CLC, SEC, CLI, SEI, CLD, SED, CLV, NOP (48_flag_nop.md). -/

namespace Sys2Proof.Machine

/-- 18 CLC implied (R190, R111). -/
def execClc (s : State) : Result := implied (fun t => t.withP { t.p with c := false }) s

/-- 38 SEC implied (R191, R111). -/
def execSec (s : State) : Result := implied (fun t => t.withP { t.p with c := true }) s

/-- 58 CLI implied (R192, R111). -/
def execCli (s : State) : Result := implied (fun t => t.withP { t.p with i := false }) s

/-- 78 SEI implied (R193, R111). -/
def execSei (s : State) : Result := implied (fun t => t.withP { t.p with i := true }) s

/-- D8 CLD implied (R194, R111). -/
def execCld (s : State) : Result := implied (fun t => t.withP { t.p with d := false }) s

/-- F8 SED implied (R195, R111). -/
def execSed (s : State) : Result := implied (fun t => t.withP { t.p with d := true }) s

/-- B8 CLV implied (R196, R111). -/
def execClv (s : State) : Result := implied (fun t => t.withP { t.p with v := false }) s

/-- EA NOP implied (R197, R111). -/
def execNop (s : State) : Result := implied (fun t => t) s

end Sys2Proof.Machine
end

