-- ==== Sys2Proof/Machine/Jump.lean ====
section
/-! DEFINITION. JMP, JSR, RTS, RTI, BRK (46_jump_call.md). -/

namespace Sys2Proof.Machine

/-- PC <- EA (R171, R172). -/
def jumpTo (m : MemOperand) (s : State) : Result :=
  finish ((resolve m (s.advance m.mode.length)).bind fun r t => .ok () (t.withPc r.ea))

/-- 4C JMP absolute (R171, R105). -/
def execJmpAbs (w : Word) (s : State) : Result := jumpTo (.abs w) s

/-- 6C JMP (indirect) (R172, R108). -/
def execJmpInd (w : Word) (s : State) : Result := jumpTo (.ind w) s

/-- 20 JSR absolute (R173, R105). -/
def execJsr (w : Word) (s : State) : Result :=
  finish ((resolve (.abs w) (s.advance 3)).bind fun r t =>
    (pushWord t (t.pc - 1)).bind fun _ u => .ok () (u.withPc r.ea))

/-- 60 RTS implied (R174, R111). -/
def execRts (s : State) : Result :=
  finish ((pullWord (s.advance 1)).bind fun w t => .ok () (t.withPc (w + 1)))

/-- 40 RTI implied (R175, R111). -/
def execRti (s : State) : Result := finish (returnFromTrap (s.advance 1))

/-- 00 BRK implied (R176, R111). -/
def execBrk (s : State) : Result := finish (enterTrap ((s.advance 1).advance s.params.brkPad.val) true vecIrq)

end Sys2Proof.Machine
end

