-- ==== Sys2Proof/Machine/LoadStore.lean ====
section
/-! DEFINITION. LDA, LDX, LDY, STA, STX, STY (41_load_store.md). -/

namespace Sys2Proof.Machine

/-- A1 LDA (zero-page,X) (R120, R109). -/
def execLdaIndx (d : Byte) (s : State) : Result := readMem loadA (.indx d) s

/-- A5 LDA zero-page (R120, R102). -/
def execLdaZp (d : Byte) (s : State) : Result := readMem loadA (.zp d) s

/-- A9 LDA immediate (R120, R101). -/
def execLdaImm (v : Byte) (s : State) : Result := readImm loadA v s

/-- AD LDA absolute (R120, R105). -/
def execLdaAbs (w : Word) (s : State) : Result := readMem loadA (.abs w) s

/-- B1 LDA (zero-page),Y (R120, R110). -/
def execLdaIndy (d : Byte) (s : State) : Result := readMem loadA (.indy d) s

/-- B5 LDA zero-page,X (R120, R103). -/
def execLdaZpx (d : Byte) (s : State) : Result := readMem loadA (.zpx d) s

/-- B9 LDA absolute,Y (R120, R107). -/
def execLdaAbsy (w : Word) (s : State) : Result := readMem loadA (.absy w) s

/-- BD LDA absolute,X (R120, R106). -/
def execLdaAbsx (w : Word) (s : State) : Result := readMem loadA (.absx w) s

/-- A2 LDX immediate (R121, R101). -/
def execLdxImm (v : Byte) (s : State) : Result := readImm loadX v s

/-- A6 LDX zero-page (R121, R102). -/
def execLdxZp (d : Byte) (s : State) : Result := readMem loadX (.zp d) s

/-- AE LDX absolute (R121, R105). -/
def execLdxAbs (w : Word) (s : State) : Result := readMem loadX (.abs w) s

/-- B6 LDX zero-page,Y (R121, R104). -/
def execLdxZpy (d : Byte) (s : State) : Result := readMem loadX (.zpy d) s

/-- BE LDX absolute,Y (R121, R107). -/
def execLdxAbsy (w : Word) (s : State) : Result := readMem loadX (.absy w) s

/-- A0 LDY immediate (R122, R101). -/
def execLdyImm (v : Byte) (s : State) : Result := readImm loadY v s

/-- A4 LDY zero-page (R122, R102). -/
def execLdyZp (d : Byte) (s : State) : Result := readMem loadY (.zp d) s

/-- AC LDY absolute (R122, R105). -/
def execLdyAbs (w : Word) (s : State) : Result := readMem loadY (.abs w) s

/-- B4 LDY zero-page,X (R122, R103). -/
def execLdyZpx (d : Byte) (s : State) : Result := readMem loadY (.zpx d) s

/-- BC LDY absolute,X (R122, R106). -/
def execLdyAbsx (w : Word) (s : State) : Result := readMem loadY (.absx w) s

/-- 81 STA (zero-page,X) (R123, R109). -/
def execStaIndx (d : Byte) (s : State) : Result := storeMem State.a (.indx d) s

/-- 85 STA zero-page (R123, R102). -/
def execStaZp (d : Byte) (s : State) : Result := storeMem State.a (.zp d) s

/-- 8D STA absolute (R123, R105). -/
def execStaAbs (w : Word) (s : State) : Result := storeMem State.a (.abs w) s

/-- 91 STA (zero-page),Y (R123, R110). -/
def execStaIndy (d : Byte) (s : State) : Result := storeMem State.a (.indy d) s

/-- 95 STA zero-page,X (R123, R103). -/
def execStaZpx (d : Byte) (s : State) : Result := storeMem State.a (.zpx d) s

/-- 99 STA absolute,Y (R123, R107). -/
def execStaAbsy (w : Word) (s : State) : Result := storeMem State.a (.absy w) s

/-- 9D STA absolute,X (R123, R106). -/
def execStaAbsx (w : Word) (s : State) : Result := storeMem State.a (.absx w) s

/-- 86 STX zero-page (R124, R102). -/
def execStxZp (d : Byte) (s : State) : Result := storeMem State.x (.zp d) s

/-- 8E STX absolute (R124, R105). -/
def execStxAbs (w : Word) (s : State) : Result := storeMem State.x (.abs w) s

/-- 96 STX zero-page,Y (R124, R104). -/
def execStxZpy (d : Byte) (s : State) : Result := storeMem State.x (.zpy d) s

/-- 84 STY zero-page (R125, R102). -/
def execStyZp (d : Byte) (s : State) : Result := storeMem State.y (.zp d) s

/-- 8C STY absolute (R125, R105). -/
def execStyAbs (w : Word) (s : State) : Result := storeMem State.y (.abs w) s

/-- 94 STY zero-page,X (R125, R103). -/
def execStyZpx (d : Byte) (s : State) : Result := storeMem State.y (.zpx d) s

end Sys2Proof.Machine
end

