-- ==== Sys2Proof/Machine/Shift.lean ====
section
/-! DEFINITION. ASL, LSR, ROL, ROR (43_shift_rotate.md). -/

namespace Sys2Proof.Machine

/-- The procedure of R140 in `acc` mode: A is the operand, no bus transaction. -/
def shiftAcc (f : Byte → Bool → Shifted) (s : State) : Result :=
  implied (fun t => (t.withA (f t.a t.p.c).value).withP (t.p.setShift (f t.a t.p.c))) s

/-- The procedure of R140 in a memory mode: one read, the flags, one write of the same address. -/
def shiftMem (f : Byte → Bool → Shifted) (m : MemOperand) (s : State) : Result :=
  finish ((resolve m (s.advance m.mode.length)).bind fun r t =>
    (busRead t r.ea).bind fun v u =>
      busWrite (u.withP (u.p.setShift (f v u.p.c))) r.ea (f v u.p.c).value)

/-- 06 ASL zero-page (R141, R140, R102). -/
def execAslZp (d : Byte) (s : State) : Result := shiftMem aslByte (.zp d) s

/-- 0A ASL accumulator (R141, R140, R111). -/
def execAslAcc (s : State) : Result := shiftAcc aslByte s

/-- 0E ASL absolute (R141, R140, R105). -/
def execAslAbs (w : Word) (s : State) : Result := shiftMem aslByte (.abs w) s

/-- 16 ASL zero-page,X (R141, R140, R103). -/
def execAslZpx (d : Byte) (s : State) : Result := shiftMem aslByte (.zpx d) s

/-- 1E ASL absolute,X (R141, R140, R106). -/
def execAslAbsx (w : Word) (s : State) : Result := shiftMem aslByte (.absx w) s

/-- 46 LSR zero-page (R142, R140, R102). -/
def execLsrZp (d : Byte) (s : State) : Result := shiftMem lsrByte (.zp d) s

/-- 4A LSR accumulator (R142, R140, R111). -/
def execLsrAcc (s : State) : Result := shiftAcc lsrByte s

/-- 4E LSR absolute (R142, R140, R105). -/
def execLsrAbs (w : Word) (s : State) : Result := shiftMem lsrByte (.abs w) s

/-- 56 LSR zero-page,X (R142, R140, R103). -/
def execLsrZpx (d : Byte) (s : State) : Result := shiftMem lsrByte (.zpx d) s

/-- 5E LSR absolute,X (R142, R140, R106). -/
def execLsrAbsx (w : Word) (s : State) : Result := shiftMem lsrByte (.absx w) s

/-- 26 ROL zero-page (R143, R140, R102). -/
def execRolZp (d : Byte) (s : State) : Result := shiftMem rolByte (.zp d) s

/-- 2A ROL accumulator (R143, R140, R111). -/
def execRolAcc (s : State) : Result := shiftAcc rolByte s

/-- 2E ROL absolute (R143, R140, R105). -/
def execRolAbs (w : Word) (s : State) : Result := shiftMem rolByte (.abs w) s

/-- 36 ROL zero-page,X (R143, R140, R103). -/
def execRolZpx (d : Byte) (s : State) : Result := shiftMem rolByte (.zpx d) s

/-- 3E ROL absolute,X (R143, R140, R106). -/
def execRolAbsx (w : Word) (s : State) : Result := shiftMem rolByte (.absx w) s

/-- 66 ROR zero-page (R144, R140, R102). -/
def execRorZp (d : Byte) (s : State) : Result := shiftMem rorByte (.zp d) s

/-- 6A ROR accumulator (R144, R140, R111). -/
def execRorAcc (s : State) : Result := shiftAcc rorByte s

/-- 6E ROR absolute (R144, R140, R105). -/
def execRorAbs (w : Word) (s : State) : Result := shiftMem rorByte (.abs w) s

/-- 76 ROR zero-page,X (R144, R140, R103). -/
def execRorZpx (d : Byte) (s : State) : Result := shiftMem rorByte (.zpx d) s

/-- 7E ROR absolute,X (R144, R140, R106). -/
def execRorAbsx (w : Word) (s : State) : Result := shiftMem rorByte (.absx w) s

end Sys2Proof.Machine
end

