-- ==== Sys2Proof/Machine/Stack.lean ====
section
/-! DEFINITION. PHA, PLA, PHP, PLP (47_stack.md). -/

namespace Sys2Proof.Machine

/-- 48 PHA implied (R180, R111). -/
def execPha (s : State) : Result := finish (push (s.advance 1) s.a)

/-- 68 PLA implied (R181, R111). -/
def execPla (s : State) : Result :=
  finish ((pull (s.advance 1)).bind fun v t => .ok () (loadA v t))

/-- 08 PHP implied (R182, R111). -/
def execPhp (s : State) : Result := finish (push (s.advance 1) (s.p.pbyte true))

/-- 28 PLP implied (R183, R111). -/
def execPlp (s : State) : Result :=
  finish ((pull (s.advance 1)).bind fun v t => .ok () (t.withP (Flags.ofByte v)))

end Sys2Proof.Machine
end

