-- ==== Sys2Proof/Machine/Transfer.lean ====
section
/-! DEFINITION. Register transfers, increments and decrements (49_transfer_incdec.md). -/

namespace Sys2Proof.Machine

/-- INC and DEC (R210, R211): one read, one write of the same address, then Z and N of the byte written. -/
def bumpMem (f : Byte → Byte) (m : MemOperand) (s : State) : Result :=
  finish ((resolve m (s.advance m.mode.length)).bind fun r t =>
    (busRead t r.ea).bind fun v u =>
      (busWrite u r.ea (f v)).bind fun _ w => .ok () (w.withP (w.p.setZN (f v))))

/-- AA TAX implied (R200, R111). -/
def execTax (s : State) : Result := implied (fun t => loadX t.a t) s

/-- A8 TAY implied (R201, R111). -/
def execTay (s : State) : Result := implied (fun t => loadY t.a t) s

/-- 8A TXA implied (R202, R111). -/
def execTxa (s : State) : Result := implied (fun t => loadA t.x t) s

/-- 98 TYA implied (R203, R111). -/
def execTya (s : State) : Result := implied (fun t => loadA t.y t) s

/-- BA TSX implied (R204, R111). -/
def execTsx (s : State) : Result := implied (fun t => loadX t.sp t) s

/-- 9A TXS implied (R205, R111). -/
def execTxs (s : State) : Result := implied (fun t => t.withSp t.x) s

/-- E8 INX implied (R206, R111). -/
def execInx (s : State) : Result := implied (fun t => loadX (t.x + 1) t) s

/-- C8 INY implied (R207, R111). -/
def execIny (s : State) : Result := implied (fun t => loadY (t.y + 1) t) s

/-- CA DEX implied (R208, R111). -/
def execDex (s : State) : Result := implied (fun t => loadX (t.x - 1) t) s

/-- 88 DEY implied (R209, R111). -/
def execDey (s : State) : Result := implied (fun t => loadY (t.y - 1) t) s

/-- E6 INC zero-page (R210, R102). -/
def execIncZp (d : Byte) (s : State) : Result := bumpMem (fun v => v + 1) (.zp d) s

/-- EE INC absolute (R210, R105). -/
def execIncAbs (w : Word) (s : State) : Result := bumpMem (fun v => v + 1) (.abs w) s

/-- F6 INC zero-page,X (R210, R103). -/
def execIncZpx (d : Byte) (s : State) : Result := bumpMem (fun v => v + 1) (.zpx d) s

/-- FE INC absolute,X (R210, R106). -/
def execIncAbsx (w : Word) (s : State) : Result := bumpMem (fun v => v + 1) (.absx w) s

/-- C6 DEC zero-page (R211, R102). -/
def execDecZp (d : Byte) (s : State) : Result := bumpMem (fun v => v - 1) (.zp d) s

/-- CE DEC absolute (R211, R105). -/
def execDecAbs (w : Word) (s : State) : Result := bumpMem (fun v => v - 1) (.abs w) s

/-- D6 DEC zero-page,X (R211, R103). -/
def execDecZpx (d : Byte) (s : State) : Result := bumpMem (fun v => v - 1) (.zpx d) s

/-- DE DEC absolute,X (R211, R106). -/
def execDecAbsx (w : Word) (s : State) : Result := bumpMem (fun v => v - 1) (.absx w) s

end Sys2Proof.Machine
end

