-- ==== Sys2Proof/Machine/Dispatch.lean ====
section
/-! DEFINITION. One arm per constructor of Instr. -/

namespace Sys2Proof.Machine

/-- The executor of an instruction (R227), in the state whose PC is the address of its opcode byte. -/
def exec (i : Instr) (s : State) : Host.Outcome State Fault Refusal :=
  match i with
  | .adcIndx d => Sys2Proof.Machine.execAdcIndx d s
  | .adcZp d => Sys2Proof.Machine.execAdcZp d s
  | .adcImm v => Sys2Proof.Machine.execAdcImm v s
  | .adcAbs w => Sys2Proof.Machine.execAdcAbs w s
  | .adcIndy d => Sys2Proof.Machine.execAdcIndy d s
  | .adcZpx d => Sys2Proof.Machine.execAdcZpx d s
  | .adcAbsy w => Sys2Proof.Machine.execAdcAbsy w s
  | .adcAbsx w => Sys2Proof.Machine.execAdcAbsx w s
  | .andIndx d => Sys2Proof.Machine.execAndIndx d s
  | .andZp d => Sys2Proof.Machine.execAndZp d s
  | .andImm v => Sys2Proof.Machine.execAndImm v s
  | .andAbs w => Sys2Proof.Machine.execAndAbs w s
  | .andIndy d => Sys2Proof.Machine.execAndIndy d s
  | .andZpx d => Sys2Proof.Machine.execAndZpx d s
  | .andAbsy w => Sys2Proof.Machine.execAndAbsy w s
  | .andAbsx w => Sys2Proof.Machine.execAndAbsx w s
  | .aslZp d => Sys2Proof.Machine.execAslZp d s
  | .aslAcc => Sys2Proof.Machine.execAslAcc s
  | .aslAbs w => Sys2Proof.Machine.execAslAbs w s
  | .aslZpx d => Sys2Proof.Machine.execAslZpx d s
  | .aslAbsx w => Sys2Proof.Machine.execAslAbsx w s
  | .bcc d => Sys2Proof.Machine.execBcc d s
  | .bcs d => Sys2Proof.Machine.execBcs d s
  | .beq d => Sys2Proof.Machine.execBeq d s
  | .bitZp d => Sys2Proof.Machine.execBitZp d s
  | .bitAbs w => Sys2Proof.Machine.execBitAbs w s
  | .bmi d => Sys2Proof.Machine.execBmi d s
  | .bne d => Sys2Proof.Machine.execBne d s
  | .bpl d => Sys2Proof.Machine.execBpl d s
  | .brk => Sys2Proof.Machine.execBrk s
  | .bvc d => Sys2Proof.Machine.execBvc d s
  | .bvs d => Sys2Proof.Machine.execBvs d s
  | .clc => Sys2Proof.Machine.execClc s
  | .cld => Sys2Proof.Machine.execCld s
  | .cli => Sys2Proof.Machine.execCli s
  | .clv => Sys2Proof.Machine.execClv s
  | .cmpIndx d => Sys2Proof.Machine.execCmpIndx d s
  | .cmpZp d => Sys2Proof.Machine.execCmpZp d s
  | .cmpImm v => Sys2Proof.Machine.execCmpImm v s
  | .cmpAbs w => Sys2Proof.Machine.execCmpAbs w s
  | .cmpIndy d => Sys2Proof.Machine.execCmpIndy d s
  | .cmpZpx d => Sys2Proof.Machine.execCmpZpx d s
  | .cmpAbsy w => Sys2Proof.Machine.execCmpAbsy w s
  | .cmpAbsx w => Sys2Proof.Machine.execCmpAbsx w s
  | .cpxImm v => Sys2Proof.Machine.execCpxImm v s
  | .cpxZp d => Sys2Proof.Machine.execCpxZp d s
  | .cpxAbs w => Sys2Proof.Machine.execCpxAbs w s
  | .cpyImm v => Sys2Proof.Machine.execCpyImm v s
  | .cpyZp d => Sys2Proof.Machine.execCpyZp d s
  | .cpyAbs w => Sys2Proof.Machine.execCpyAbs w s
  | .decZp d => Sys2Proof.Machine.execDecZp d s
  | .decAbs w => Sys2Proof.Machine.execDecAbs w s
  | .decZpx d => Sys2Proof.Machine.execDecZpx d s
  | .decAbsx w => Sys2Proof.Machine.execDecAbsx w s
  | .dex => Sys2Proof.Machine.execDex s
  | .dey => Sys2Proof.Machine.execDey s
  | .eorIndx d => Sys2Proof.Machine.execEorIndx d s
  | .eorZp d => Sys2Proof.Machine.execEorZp d s
  | .eorImm v => Sys2Proof.Machine.execEorImm v s
  | .eorAbs w => Sys2Proof.Machine.execEorAbs w s
  | .eorIndy d => Sys2Proof.Machine.execEorIndy d s
  | .eorZpx d => Sys2Proof.Machine.execEorZpx d s
  | .eorAbsy w => Sys2Proof.Machine.execEorAbsy w s
  | .eorAbsx w => Sys2Proof.Machine.execEorAbsx w s
  | .incZp d => Sys2Proof.Machine.execIncZp d s
  | .incAbs w => Sys2Proof.Machine.execIncAbs w s
  | .incZpx d => Sys2Proof.Machine.execIncZpx d s
  | .incAbsx w => Sys2Proof.Machine.execIncAbsx w s
  | .inx => Sys2Proof.Machine.execInx s
  | .iny => Sys2Proof.Machine.execIny s
  | .jmpAbs w => Sys2Proof.Machine.execJmpAbs w s
  | .jmpInd w => Sys2Proof.Machine.execJmpInd w s
  | .jsr w => Sys2Proof.Machine.execJsr w s
  | .ldaIndx d => Sys2Proof.Machine.execLdaIndx d s
  | .ldaZp d => Sys2Proof.Machine.execLdaZp d s
  | .ldaImm v => Sys2Proof.Machine.execLdaImm v s
  | .ldaAbs w => Sys2Proof.Machine.execLdaAbs w s
  | .ldaIndy d => Sys2Proof.Machine.execLdaIndy d s
  | .ldaZpx d => Sys2Proof.Machine.execLdaZpx d s
  | .ldaAbsy w => Sys2Proof.Machine.execLdaAbsy w s
  | .ldaAbsx w => Sys2Proof.Machine.execLdaAbsx w s
  | .ldxImm v => Sys2Proof.Machine.execLdxImm v s
  | .ldxZp d => Sys2Proof.Machine.execLdxZp d s
  | .ldxAbs w => Sys2Proof.Machine.execLdxAbs w s
  | .ldxZpy d => Sys2Proof.Machine.execLdxZpy d s
  | .ldxAbsy w => Sys2Proof.Machine.execLdxAbsy w s
  | .ldyImm v => Sys2Proof.Machine.execLdyImm v s
  | .ldyZp d => Sys2Proof.Machine.execLdyZp d s
  | .ldyAbs w => Sys2Proof.Machine.execLdyAbs w s
  | .ldyZpx d => Sys2Proof.Machine.execLdyZpx d s
  | .ldyAbsx w => Sys2Proof.Machine.execLdyAbsx w s
  | .lsrZp d => Sys2Proof.Machine.execLsrZp d s
  | .lsrAcc => Sys2Proof.Machine.execLsrAcc s
  | .lsrAbs w => Sys2Proof.Machine.execLsrAbs w s
  | .lsrZpx d => Sys2Proof.Machine.execLsrZpx d s
  | .lsrAbsx w => Sys2Proof.Machine.execLsrAbsx w s
  | .nop => Sys2Proof.Machine.execNop s
  | .oraIndx d => Sys2Proof.Machine.execOraIndx d s
  | .oraZp d => Sys2Proof.Machine.execOraZp d s
  | .oraImm v => Sys2Proof.Machine.execOraImm v s
  | .oraAbs w => Sys2Proof.Machine.execOraAbs w s
  | .oraIndy d => Sys2Proof.Machine.execOraIndy d s
  | .oraZpx d => Sys2Proof.Machine.execOraZpx d s
  | .oraAbsy w => Sys2Proof.Machine.execOraAbsy w s
  | .oraAbsx w => Sys2Proof.Machine.execOraAbsx w s
  | .pha => Sys2Proof.Machine.execPha s
  | .php => Sys2Proof.Machine.execPhp s
  | .pla => Sys2Proof.Machine.execPla s
  | .plp => Sys2Proof.Machine.execPlp s
  | .rolZp d => Sys2Proof.Machine.execRolZp d s
  | .rolAcc => Sys2Proof.Machine.execRolAcc s
  | .rolAbs w => Sys2Proof.Machine.execRolAbs w s
  | .rolZpx d => Sys2Proof.Machine.execRolZpx d s
  | .rolAbsx w => Sys2Proof.Machine.execRolAbsx w s
  | .rorZp d => Sys2Proof.Machine.execRorZp d s
  | .rorAcc => Sys2Proof.Machine.execRorAcc s
  | .rorAbs w => Sys2Proof.Machine.execRorAbs w s
  | .rorZpx d => Sys2Proof.Machine.execRorZpx d s
  | .rorAbsx w => Sys2Proof.Machine.execRorAbsx w s
  | .rti => Sys2Proof.Machine.execRti s
  | .rts => Sys2Proof.Machine.execRts s
  | .sbcIndx d => Sys2Proof.Machine.execSbcIndx d s
  | .sbcZp d => Sys2Proof.Machine.execSbcZp d s
  | .sbcImm v => Sys2Proof.Machine.execSbcImm v s
  | .sbcAbs w => Sys2Proof.Machine.execSbcAbs w s
  | .sbcIndy d => Sys2Proof.Machine.execSbcIndy d s
  | .sbcZpx d => Sys2Proof.Machine.execSbcZpx d s
  | .sbcAbsy w => Sys2Proof.Machine.execSbcAbsy w s
  | .sbcAbsx w => Sys2Proof.Machine.execSbcAbsx w s
  | .sec => Sys2Proof.Machine.execSec s
  | .sed => Sys2Proof.Machine.execSed s
  | .sei => Sys2Proof.Machine.execSei s
  | .staIndx d => Sys2Proof.Machine.execStaIndx d s
  | .staZp d => Sys2Proof.Machine.execStaZp d s
  | .staAbs w => Sys2Proof.Machine.execStaAbs w s
  | .staIndy d => Sys2Proof.Machine.execStaIndy d s
  | .staZpx d => Sys2Proof.Machine.execStaZpx d s
  | .staAbsy w => Sys2Proof.Machine.execStaAbsy w s
  | .staAbsx w => Sys2Proof.Machine.execStaAbsx w s
  | .stxZp d => Sys2Proof.Machine.execStxZp d s
  | .stxAbs w => Sys2Proof.Machine.execStxAbs w s
  | .stxZpy d => Sys2Proof.Machine.execStxZpy d s
  | .styZp d => Sys2Proof.Machine.execStyZp d s
  | .styAbs w => Sys2Proof.Machine.execStyAbs w s
  | .styZpx d => Sys2Proof.Machine.execStyZpx d s
  | .tax => Sys2Proof.Machine.execTax s
  | .tay => Sys2Proof.Machine.execTay s
  | .tsx => Sys2Proof.Machine.execTsx s
  | .txa => Sys2Proof.Machine.execTxa s
  | .txs => Sys2Proof.Machine.execTxs s
  | .tya => Sys2Proof.Machine.execTya s

end Sys2Proof.Machine
end

