-- ==== Sys2Proof/Machine/Fetch.lean ====
section
/-! DEFINITION. Fetching an instruction's bytes through the bus (R60, R227). -/

namespace Sys2Proof.Machine

/-- `n` bytes at ascending addresses (R58, R60), modulo 65536 (R25). -/
def fetchBytes : Nat → Word → State → Access (List Byte)
  | 0, _, s => .ok [] s
  | n + 1, addr, s =>
    (busRead s addr).bind fun b t =>
      (fetchBytes n (addr + 1) t).bind fun bs u => .ok (b :: bs) u

/-- What a fetch ends in. -/
inductive Fetched where
  /-- An instruction, and the state after its bytes were read, with PC still at the opcode. -/
  | instr (i : Instr) (s : State)
  /-- An illegal opcode byte: one bus read was made, nothing else (R240). -/
  | illegal (op : Byte) (s : State)
  /-- The bus refused a byte; PC is where the transaction found it (R241): see `refusedPc`. -/
  | refused (addr : Word) (s : State)
  deriving DecidableEq, Repr

/-- PC when the bus refuses the operand byte at `addr` (R241, D20; DEDUCED: log 9). `Fetch()` moves PC past a byte after it has read it
(R60), so PC is the byte's address; an immediate operand's byte is read by the executor after `Operand(imm)` has moved PC past it (R101,
D27). -/
def refusedPc (m : Mode) (addr : Word) : Word := if m = .imm then addr + 1 else addr

/-- The instruction whose opcode byte was `op`: its operand bytes are fetched and decoded (R81, R84). -/
def fetchOperands (op : Byte) (s : State) : Fetched :=
  match dispatch op with
  | none => .illegal op s
  | some d =>
    match fetchBytes (d.mode.length - 1) (s.pc + 1) s with
    | .refused addr t => .refused addr (t.withPc (refusedPc d.mode addr))
    | .ok bs t =>
      match decode (op :: bs) with
      | .ok (i, _) => .instr i t
      | .error _ => .illegal op t

/-- The fetch of the next instruction: the opcode byte at PC, then its operand bytes (R227). -/
def fetchInstr (s : State) : Fetched :=
  match busRead s s.pc with
  | .refused addr t => .refused addr t
  | .ok op t => fetchOperands op t

end Sys2Proof.Machine
end

