-- ==== Sys2Proof/Machine/Timing.lean ====
section
/-! DEFINITION. The cycle count of an instruction (R275, R276): an output of `run()`, no state depends on it. -/

namespace Sys2Proof.Machine

/-- The page-cross bit the resolver reports for an operand in a state whose PC is at the opcode (R113); false for the forms without
an effective address. -/
def operandCrosses (o : Operand) (s : State) : Bool :=
  match o with
  | .imp => false
  | .acc => false
  | .imm _ => false
  | .mem m =>
    match resolve m (s.advance m.mode.length) with
    | .ok r _ => r.cross
    | .refused _ _ => false

/-- `descriptor.cycles + penalties` (R275). -/
def descriptorCycles (d : Descriptor) (cross taken : Bool) : Nat :=
  d.cycles + bitNat (d.pageCross && cross) + (if d.branch && taken then 1 + bitNat cross else 0)

/-- The cycles `run()` returns for the instruction (R275). Every instruction has a descriptor, so the last case is never used. -/
def instrCycles (i : Instr) (s : State) : Nat :=
  match i.descriptor with
  | some d => descriptorCycles d (operandCrosses i.operand s) (branchCondition i.mnemonic s.p)
  | none => 0

end Sys2Proof.Machine
end

