-- ==== Sys2Proof/Machine/Run.lean ====
section
/-! DEFINITION. `run()` (R220, R221, R227): one interrupt service or one instruction, with its cycle count and, after a fatal fault,
the state the machine is left in. -/

namespace Sys2Proof.Machine

/-- What a call of `run()` ends in. -/
inductive RunResult where
  /-- It returned this state and this cycle count. -/
  | returned (s : State) (cycles : Nat)
  /-- It was aborted by a fatal fault; the state it left is Faulted (R240, R241). -/
  | aborted (reason : Fault) (s : State)
  /-- It has no step (R220). -/
  | noStep (reason : Refusal)
  deriving DecidableEq, Repr

/-- The machine after a fatal fault (R243). -/
def State.toFaulted (s : State) : State := s.withRun .faulted

/-- The end of an instruction or a service as the end of the call, with the cycles it returns. -/
def concludeRun (r : Result) (s : State) (cycles : Nat) : RunResult :=
  match r with
  | .next t => .returned t cycles
  | .fault (.busFault addr left) => .aborted (.busFault addr left) left.toFaulted
  | .fault (.illegalOpcode op addr) => .aborted (.illegalOpcode op addr) s.toFaulted
  | .refused reason => .noStep reason

/-- `ExecuteInstruction` (R227). -/
def executeInstruction (s : State) : RunResult :=
  match fetchInstr s with
  | .instr i t => concludeRun (exec i t) t (instrCycles i t)
  | .illegal op t => .aborted (.illegalOpcode op t.pc) t.toFaulted
  | .refused addr t => .aborted (.busFault addr t) t.toFaulted

/-- The choice of R221, made once, from the state as it stands when the call begins. -/
def runRunning (s : State) : RunResult :=
  if s.nmiPending then concludeRun (finish (serviceNmi s)) s cycInt
  else if s.irqPending && !s.p.i then concludeRun (finish (serviceIrq s)) s cycInt
  else executeInstruction s

/-- `run()` (R220). -/
def runCall (s : State) : RunResult :=
  match s.run with
  | .running => runRunning s
  | .poweredOff => .noStep .poweredOff
  | .faulted => .noStep .faulted

/-- A call of `run()` as an outcome: its next state, its fault or its refusal, without the cycle count. -/
def RunResult.outcome : RunResult → Result
  | .returned s _ => .next s
  | .aborted reason _ => .fault reason
  | .noStep reason => .refused reason

/-- The cycle count a call returned, if it returned (R12, R275). -/
def RunResult.cycles : RunResult → Option Nat
  | .returned _ n => some n
  | .aborted _ _ => none
  | .noStep _ => none

/-- The state a call leaves, if it had a step. -/
def RunResult.left : RunResult → Option State
  | .returned s _ => some s
  | .aborted _ s => some s
  | .noStep _ => none

end Sys2Proof.Machine
end

