-- ==== Sys2Proof/Machine/Step.lean ====
section
/-! DEFINITION. One step of the machine: one call of `run()` (R12, R220). -/

namespace Sys2Proof.Machine

/-- One call of `run()`. -/
def step (s : State) : Host.Outcome State Fault Refusal := (runCall s).outcome

/-- The state with the given instruction placed where `step` fetches its next instruction (DESIGN CHOICE, safe: log 6). -/
def State.withFetchWord (s : State) (nbits w : Nat) : State := s.place nbits w

end Sys2Proof.Machine
end

