-- ==== Sys2Proof/Safety.lean ====
section
/-! DEFINITION. The terms claims use: a total bus, the well-formed machine, the classes and encodings of instructions, and what a
sequence of transactions delivers on a total bus. -/

namespace Sys2Proof.Machine

/-- The bus is total: it refuses no address (R52). The premise under which `BusFault` cannot happen (R241). -/
def State.BusTotal (s : State) : Prop := ∀ addr : Word, s.refuses addr = false

/-- The machine is well-formed: it is Running and its memory is in canonical form. -/
def State.Inv (s : State) : Prop := s.run = .running ∧ Memory.wf s.mem = true

/-- The word two reads deliver on a total bus, low byte first (R54, R58). -/
def State.peekWord (s : State) (addrLo addrHi : Word) : Word :=
  word ((s.afterRead addrLo).peek addrHi) (s.peek addrLo)

/-- The state two reads leave on a total bus. -/
def State.afterReadWord (s : State) (addrLo addrHi : Word) : State := (s.afterRead addrLo).afterRead addrHi

/-- The state a push leaves on a total bus (R62). -/
def State.pushed (s : State) (v : Byte) : State := (s.poke (stackAddr s.sp) v).withSp (s.sp - 1)

/-- The state a pull leaves on a total bus (R63). -/
def State.pulled (s : State) : State := (s.afterRead (stackAddr (s.sp + 1))).withSp (s.sp + 1)

/-- The byte a pull delivers on a total bus (R63). -/
def State.top (s : State) : Byte := s.peek (stackAddr (s.sp + 1))

/-- No interrupt is serviced at this boundary (R221). -/
def State.NoService (s : State) : Prop := s.nmiPending = false ∧ (s.irqPending = false ∨ s.p.i = true)

/-- `signed(b)` (R6): the integer a byte is in two's complement. -/
def signed (b : Byte) : Int := if b.toNat ≥ 128 then (b.toNat : Int) - 256 else b.toNat

/-- The decimal number of a byte of two binary-coded-decimal digits (R132). -/
def bcdValue (b : Byte) : Nat := 10 * (b.toNat / 16) + b.toNat % 16

/-- Both digits of a byte are 0 to 9 (R132). -/
def IsBcd (b : Byte) : Prop := b.toNat / 16 ≤ 9 ∧ b.toNat % 16 ≤ 9

/-- The page of an address (R13): the block of 256 addresses with the same high byte. -/
def page (addr : Word) : Nat := addr.toNat / 256

/-- The stack location of a stack pointer, `0x0100 + SP`, as a sum (R61). -/
def slot (sp : Byte) : Word := 0x0100 + sp.setWidth 16

/-- The same state with PC `n` bytes on and a history of outside transactions of its own: what the fetch and the resolution of an
operand may change (R100). -/
def State.PassedTo (s t : State) (n : Nat) : Prop := t = { s with pc := s.pc + BitVec.ofNat 16 n, io := t.io }

/-- Instruction `i` at `s` has the operand byte `v`, and `t` is the state after its last read: an immediate is the byte itself, a
memory operand is one read at the effective address (R58, R101). Only PC and the history have changed. -/
def ReadsByte (s : State) (i : Instr) (v : Byte) (t : State) : Prop :=
  s.PassedTo t i.length ∧
    match i.operand with
    | .imp => False
    | .acc => False
    | .imm b => v = b ∧ t = s.advance 2
    | .mem m => ∃ r u, resolve m (s.advance i.length) = .ok r u ∧ busRead u r.ea = .ok v t

/-- Instruction `i` at `s` has the memory operand at the effective address `ea`, and `t` is the state after its resolution. Only PC
and the history have changed. -/
def HasAddress (s : State) (i : Instr) (ea : Word) (t : State) : Prop :=
  s.PassedTo t i.length ∧ ∃ m r, i.operand = .mem m ∧ resolve m (s.advance i.length) = .ok r t ∧ ea = r.ea

/-- The bytes of an instruction, and its cycles: a base count, and one more on a page cross where `penalty` (R275). -/
def Encodes (i : Instr) (bytes : List Byte) (cycles : Nat) (penalty : Bool) : Prop :=
  encode i = bytes ∧ ∀ s, instrCycles i s = cycles + if penalty && operandCrosses i.operand s then 1 else 0

/-- `f(v, c_in) -> (r, c_out)` of the four shifts and rotates, on numbers (R141 to R144). -/
def ShiftsTo (m : Mnemonic) (v : Byte) (c : Bool) (r : Byte) (c' : Bool) : Prop :=
  (m = .asl ∧ r.toNat = 2 * v.toNat % 256 ∧ c' = v.getLsbD 7) ∨
  (m = .lsr ∧ r.toNat = v.toNat / 2 ∧ c' = v.getLsbD 0) ∨
  (m = .rol ∧ r.toNat = (2 * v.toNat + c.toNat) % 256 ∧ c' = v.getLsbD 7) ∨
  (m = .ror ∧ r.toNat = v.toNat / 2 + 128 * c.toNat ∧ c' = v.getLsbD 0)

/-- The state a trap entered at `s` leaves on a total bus (R176, R222): `ret` and the status byte in the three stack locations from SP
down, SP less 3, I set, PC the word at the vector. -/
def State.trapEntry (s : State) (ret : Word) (brk : Bool) (vec : Word) : State :=
  let t := ((s.poke (slot s.sp) (hi8 ret)).poke (slot (s.sp - 1)) (lo8 ret)).poke (slot (s.sp - 2)) (s.p.pbyte brk)
  { t with
    sp := s.sp - 3
    p := { s.p with i := true }
    pc := t.peekWord vec (vec + 1)
    io := (t.afterReadWord vec (vec + 1)).io }

/-- The 105 byte values that are illegal as opcodes, as R88 lists them. -/
def illegalBytes : List Byte :=
  [0x02, 0x03, 0x04, 0x07, 0x0B, 0x0C, 0x0F, 0x12, 0x13, 0x14, 0x17, 0x1A, 0x1B, 0x1C, 0x1F] ++
  [0x22, 0x23, 0x27, 0x2B, 0x2F, 0x32, 0x33, 0x34, 0x37, 0x3A, 0x3B, 0x3C, 0x3F] ++
  [0x42, 0x43, 0x44, 0x47, 0x4B, 0x4F, 0x52, 0x53, 0x54, 0x57, 0x5A, 0x5B, 0x5C, 0x5F] ++
  [0x62, 0x63, 0x64, 0x67, 0x6B, 0x6F, 0x72, 0x73, 0x74, 0x77, 0x7A, 0x7B, 0x7C, 0x7F] ++
  [0x80, 0x82, 0x83, 0x87, 0x89, 0x8B, 0x8F, 0x92, 0x93, 0x97, 0x9B, 0x9C, 0x9E, 0x9F] ++
  [0xA3, 0xA7, 0xAB, 0xAF, 0xB2, 0xB3, 0xB7, 0xBB, 0xBF] ++
  [0xC2, 0xC3, 0xC7, 0xCB, 0xCF, 0xD2, 0xD3, 0xD4, 0xD7, 0xDA, 0xDB, 0xDC, 0xDF] ++
  [0xE2, 0xE3, 0xE7, 0xEB, 0xEF, 0xF2, 0xF3, 0xF4, 0xF7, 0xFA, 0xFB, 0xFC, 0xFF]

/-- The read-type instructions (R13). -/
def readTypes : List Mnemonic := [.lda, .ldx, .ldy, .adc, .sbc, .and, .ora, .eor, .cmp, .cpx, .cpy, .bit]

/-- The stores (R13). -/
def storeTypes : List Mnemonic := [.sta, .stx, .sty]

/-- The mnemonics whose memory forms are read-modify-write (R13). -/
def rmwTypes : List Mnemonic := [.asl, .lsr, .rol, .ror, .inc, .dec]

/-- The instructions with no memory operand and no stack access: flags, transfers, register steps, branches. -/
def registerTypes : List Mnemonic :=
  [.clc, .sec, .cli, .sei, .cld, .sed, .clv, .nop, .tax, .tay, .txa, .tya, .tsx, .txs, .inx, .iny, .dex, .dey,
   .bcc, .bcs, .beq, .bne, .bmi, .bpl, .bvc, .bvs]

/-- The history of `t` is that of `s` followed by these transactions. -/
def State.Adds (t s : State) (events : List BusEvent) : Prop := t.io = s.io ++ events

/-- The base cycle counts of R276, by mode and class. -/
def baseCycles (m : Mnemonic) : Mode → Nat
  | .imp =>
    if m ∈ [.pha, .php] then 3 else if m ∈ [.pla, .plp] then 4 else if m ∈ [.rts, .rti] then 6 else if m = .brk then 7 else 2
  | .acc => 2
  | .imm => 2
  | .zp => if m ∈ rmwTypes then 5 else 3
  | .zpx => if m ∈ rmwTypes then 6 else 4
  | .zpy => 4
  | .abs => if m ∈ rmwTypes then 6 else if m = .jmp then 3 else if m = .jsr then 6 else 4
  | .absx => if m ∈ rmwTypes then 7 else if m ∈ storeTypes then 5 else 4
  | .absy => if m ∈ storeTypes then 5 else 4
  | .ind => 5
  | .indx => 6
  | .indy => if m ∈ storeTypes then 6 else 5
  | .rel => 2

/-- A one-byte instruction (format F1, R82) with its base cycles. -/
def PlainForm (i : Instr) (m : Mnemonic) (o : Operand) (op : Byte) (cycles : Nat) : Prop :=
  i.mnemonic = m ∧ i.operand = o ∧ Encodes i [op] cycles false

/-- A two-byte instruction (format F2) with its base cycles, and whether a page cross costs one more. -/
def ByteForm (make : Byte → Instr) (m : Mnemonic) (o : Byte → Operand) (op : Byte) (cycles : Nat) (penalty : Bool) : Prop :=
  ∀ d, (make d).mnemonic = m ∧ (make d).operand = o d ∧ Encodes (make d) [op, d] cycles penalty

/-- A three-byte instruction (format F3), low operand byte first, with its base cycles, and whether a page cross costs one more. -/
def WordForm (make : Word → Instr) (m : Mnemonic) (o : Word → Operand) (op : Byte) (cycles : Nat) (penalty : Bool) : Prop :=
  ∀ w, (make w).mnemonic = m ∧ (make w).operand = o w ∧ Encodes (make w) [op, lo8 w, hi8 w] cycles penalty

/-- The eight read-type encodings that ADC, SBC, AND, ORA, EOR, CMP and LDA have, with their shared lengths and cycles. -/
def EightForms (m : Mnemonic) (imm zp zpx : Byte → Instr) (abs absx absy : Word → Instr) (indx indy : Byte → Instr)
    (oImm oZp oZpx oAbs oAbsx oAbsy oIndx oIndy : Byte) : Prop :=
  ByteForm imm m .imm oImm 2 false ∧ ByteForm zp m (fun d => .mem (.zp d)) oZp 3 false ∧
  ByteForm zpx m (fun d => .mem (.zpx d)) oZpx 4 false ∧ WordForm abs m (fun w => .mem (.abs w)) oAbs 4 false ∧
  WordForm absx m (fun w => .mem (.absx w)) oAbsx 4 true ∧ WordForm absy m (fun w => .mem (.absy w)) oAbsy 4 true ∧
  ByteForm indx m (fun d => .mem (.indx d)) oIndx 6 false ∧ ByteForm indy m (fun d => .mem (.indy d)) oIndy 5 true

/-- The five encodings of a shift or rotate (R140). -/
def ShiftForms (m : Mnemonic) (acc : Instr) (zp zpx : Byte → Instr) (abs absx : Word → Instr) (oAcc oZp oZpx oAbs oAbsx : Byte) :
    Prop :=
  PlainForm acc m .acc oAcc 2 ∧ ByteForm zp m (fun d => .mem (.zp d)) oZp 5 false ∧
  ByteForm zpx m (fun d => .mem (.zpx d)) oZpx 6 false ∧ WordForm abs m (fun w => .mem (.abs w)) oAbs 6 false ∧
  WordForm absx m (fun w => .mem (.absx w)) oAbsx 7 false

/-- The target of a branch at the PC of `s` (R112): the signed displacement added to the address of the next instruction, modulo
65536. -/
def State.target (s : State) (d : Byte) : Word := BitVec.ofInt 16 ((s.pc + 2).toNat + signed d)

/-- A branch (R155): encoding, effect and cycles. It goes to its target exactly when `cond` holds of the flags. -/
def Branches (make : Byte → Instr) (op : Byte) (cond : Flags → Bool) : Prop :=
  ∀ d s, encode (make d) = [op, d] ∧
    exec (make d) s = .next { s with pc := if cond s.p then s.target d else s.pc + 2 } ∧
    instrCycles (make d) s = if cond s.p then (if page (s.target d) = page (s.pc + 2) then 3 else 4) else 2

/-- The stack page is plain memory that holds 256 bytes (R63, R67): each of its locations is a cell of its own. -/
def State.StackIsRam (s : State) : Prop := ∃ cell : Byte → Nat, cell.Injective ∧ ∀ sp, s.route (slot sp) = .ram (cell sp)

/-- The transactions of the pointer of an operand, on a bus where every address is a device register (R58, R59). -/
def pointerReads (s : State) : MemOperand → List BusEvent
  | .ind w => [.read w, .read (if s.params.jmpIndWrap then word (hi8 w) (lo8 w + 1) else w + 1)]
  | .indx d => [.read (word 0x00 (d + s.x)), .read (word 0x00 (d + s.x + 1))]
  | .indy d => [.read (word 0x00 d), .read (word 0x00 (d + 1))]
  | .zp _ => []
  | .zpx _ => []
  | .zpy _ => []
  | .abs _ => []
  | .absx _ => []
  | .absy _ => []
  | .rel _ => []

end Sys2Proof.Machine
end

