-- ==== Sys2Proof/Certificates/Slice0/Obligations.lean ====
section
/-! DEFINITION. The statements for the provers. Each docstring names the rules of spec/ it rests on; where a clause is the model's own
choice it names the log entry. -/

section

open Sys2Proof Sys2Proof.Machine

/-! Encoding. -/

/-- Every instruction is read back from its bytes, whatever bytes follow (R80, R82, R83). -/
def Obligations.DecodeEncode : Prop :=
  ∀ (i : Instr) (rest : List Byte), decode (encode i ++ rest) = .ok (i, rest)

/-- Bytes that decode are the encoding of what they decode to: no operand bit is ignored and no second spelling exists (R80, R84,
R90). -/
def Obligations.EncodeDecode : Prop :=
  ∀ (bs : List Byte) (i : Instr) (rest : List Byte), decode bs = .ok (i, rest) → bs = encode i ++ rest

/-- The thirteen examples of R91, one for each mode, a word of each further family, and an illegal byte, which is rejected. -/
def Obligations.WordsDecode : Prop :=
  decode [0x18] = .ok (.clc, []) ∧
  decode [0x4A] = .ok (.lsrAcc, []) ∧
  decode [0xA9, 0xAA] = .ok (.ldaImm 0xAA, []) ∧
  decode [0xA5, 0xA5] = .ok (.ldaZp 0xA5, []) ∧
  decode [0xB5, 0xA5] = .ok (.ldaZpx 0xA5, []) ∧
  decode [0xB6, 0x10] = .ok (.ldxZpy 0x10, []) ∧
  decode [0x4C, 0x00, 0x80] = .ok (.jmpAbs 0x8000, []) ∧
  decode [0x9D, 0xA5, 0x10] = .ok (.staAbsx 0x10A5, []) ∧
  decode [0xB9, 0x00, 0x02] = .ok (.ldaAbsy 0x0200, []) ∧
  decode [0x6C, 0xFF, 0x02] = .ok (.jmpInd 0x02FF, []) ∧
  decode [0xA1, 0x20] = .ok (.ldaIndx 0x20, []) ∧
  decode [0xB1, 0x20] = .ok (.ldaIndy 0x20, []) ∧
  decode [0xD0, 0xFC] = .ok (.bne 0xFC, []) ∧
  decode [0x69, 0x10] = .ok (.adcImm 0x10, []) ∧
  decode [0xC9, 0x40] = .ok (.cmpImm 0x40, []) ∧
  decode [0x20, 0x10, 0x80] = .ok (.jsr 0x8010, []) ∧
  decode [0x48] = .ok (.pha, []) ∧
  decode [0xAA] = .ok (.tax, []) ∧
  decode [0xE6, 0x10] = .ok (.incZp 0x10, []) ∧
  decode [0x02] = .error (.illegalOpcode 0x02)

/-- The instructions are exactly the filled cells of the opcode map, one each (R86, R92). -/
def Obligations.LegalForms : Prop :=
  (∀ l : AsmLine, l.wellFormed = true ↔ ∃ i : Instr, i.line = l) ∧
  (∀ i j : Instr, i.line = j.line → i = j)

/-- The table has 151 opcode bytes, all different; the bytes without a row are the 105 of R88; the descriptor's flags and base cycles
are those of R85 and R276. -/
def Obligations.OpcodeTable : Prop :=
  opcodeTable.length = 151 ∧
  (opcodeTable.map fun d => d.opcode).Nodup ∧
  illegalBytes.length = 105 ∧
  (∀ op : Byte, (dispatch op).isNone = true ↔ op ∈ illegalBytes) ∧
  (∀ d ∈ opcodeTable, d.branch = decide (d.mode = .rel)) ∧
  (∀ d ∈ opcodeTable, d.pageCross = (decide (d.mnemonic ∈ readTypes) && decide (d.mode ∈ [.absx, .absy, .indy]))) ∧
  (∀ d ∈ opcodeTable, d.cycles = baseCycles d.mnemonic d.mode)

/-! Reset, run states and the interrupt line. -/

/-- `reset()` from any run state, on a bus that answers (R260): two reads, no write, and only I, SP, PC and the run state change. -/
def Obligations.ResetSequence : Prop :=
  ∀ s : State, s.BusTotal →
    resetCall s = .ok () { s with
      sp := 0xFD
      pc := s.peekWord 0xFFFC 0xFFFD
      p := { s.p with i := true }
      run := .running
      io := (s.afterReadWord 0xFFFC 0xFFFD).io }

/-- What the first reset leaves: SP, I and the run state are R44's; PC is the word at a reset vector no program has filled; A, X, Y and
the other flags are 0 by log 1, the pending bits 0 by log 7, no memory is listed by log 5, the map is log 3's and the parameters are
the defaults of R4 (log 8): of these, logs 1, 3, 5 and 7 are the model's choices. -/
def Obligations.ResetState : Prop :=
  resetCall State.powerOn = .ok () State.reset ∧
  State.reset.sp = 0xFD ∧ State.reset.p.i = true ∧ State.reset.run = .running ∧
  State.reset.pc = State.powerOn.peekWord 0xFFFC 0xFFFD ∧
  (inspect State.reset).reserved = true ∧ (inspect State.reset).breakFlag = false ∧
  State.reset.a = 0x00 ∧ State.reset.x = 0x00 ∧ State.reset.y = 0x00 ∧
  State.reset.p.n = false ∧ State.reset.p.v = false ∧ State.reset.p.d = false ∧ State.reset.p.z = false ∧
  State.reset.p.c = false ∧ State.reset.irqPending = false ∧ State.reset.nmiPending = false ∧ State.reset.mem = [] ∧
  State.reset.bus = consoleMap ∧ State.reset.params = { decimal := .nmos, jmpIndWrap := true, brkPad := 1 }

/-- `run()` before the first reset and after a fatal fault has no step (R220, R243, D12, D13). -/
def Obligations.NoStepOutsideRunning : Prop :=
  (∀ s : State, s.run = .poweredOff → runCall s = .noStep .poweredOff ∧ step s = .refused .poweredOff) ∧
  (∀ s : State, s.run = .faulted → runCall s = .noStep .faulted ∧ step s = .refused .faulted)

/-- The three calls on the interrupt line write one bit each (R37); inspection reads the registers and the six flags, the reserved flag
as 1 and the break flag as 0 (R20, R34, R35, D8). -/
def Obligations.OwnerCalls : Prop :=
  ∀ s : State,
    assertIrq s = { s with irqPending := true } ∧ deassertIrq s = { s with irqPending := false } ∧
    assertNmi s = { s with nmiPending := true } ∧
    inspect s = { a := s.a, x := s.x, y := s.y, sp := s.sp, pc := s.pc, negative := s.p.n, overflow := s.p.v, reserved := true,
                  breakFlag := false, decimal := s.p.d, interruptDisable := s.p.i, zero := s.p.z, carry := s.p.c }

/-- After any step no NMI is pending, and an IRQ is still pending exactly when it was masked or an NMI went first (R38, R39, R225,
R226). -/
def Obligations.PendingBitsAfterStep : Prop :=
  ∀ s t : State, step s = .next t →
    t.nmiPending = false ∧ t.irqPending = (s.irqPending && (s.nmiPending || s.p.i))

/-! The bus, the stack, the status byte. -/

/-- What a read answers (R53): the byte of a cell, and nothing changes; or a device's answer, a free value of the history (log 4), and
the device has seen the read and no cell changes (DESIGN CHOICE, log 15, on R72); an address in no region is refused (R241). -/
def Obligations.BusReads : Prop :=
  ∀ (s : State) (addr : Word),
    (∀ k, s.route addr = .ram k → busRead s addr = .ok (s.mem.read k) s) ∧
    (∀ k, s.route addr = .rom k → busRead s addr = .ok (s.mem.read k) s) ∧
    (∀ r, s.route addr = .device r → busRead s addr = .ok (Config.deviceRead s.io r) { s with io := s.io ++ [.read r] }) ∧
    (s.route addr = .refused → busRead s addr = .refused addr s)

/-- What a write does (R53, R57, R68): RAM holds the byte and every other cell keeps its own; ROM and devices are sent the write (U8 and
log 3 for ROM, log 4 for devices) and no cell changes (DESIGN CHOICE, log 3 for ROM, log 15 for devices, on R72); an address in no region
is refused (R241). -/
def Obligations.BusWrites : Prop :=
  ∀ (s : State) (addr : Word) (v : Byte), Memory.wf s.mem = true →
    (∀ k, s.route addr = .ram k →
      ∃ t, busWrite s addr v = .ok () t ∧ t = { s with mem := t.mem } ∧ Memory.wf t.mem = true ∧
        ∀ j, t.mem.read j = if j = k then v else s.mem.read j) ∧
    (∀ k, s.route addr = .rom k → busWrite s addr v = .ok () { s with io := s.io ++ [.write (BitVec.ofNat 16 k) v] }) ∧
    (∀ r, s.route addr = .device r → busWrite s addr v = .ok () { s with io := s.io ++ [.write r v] }) ∧
    (s.route addr = .refused → busWrite s addr v = .refused addr s)

/-- The console's map (R68; the 32 KB of ROM and the expansion range by logs 3 and 4): every address has one owner, RAM is mirrored every
0x0800 and the PPU registers every 8. -/
def Obligations.ConsoleMap : Prop :=
  ∀ (s : State) (addr : Word), s.bus = consoleMap →
    s.refuses addr = false ∧
    s.route addr =
      if addr.toNat < 0x2000 then .ram (addr.toNat % 0x0800)
      else if addr.toNat < 0x4000 then .device (BitVec.ofNat 16 (0x2000 + addr.toNat % 8))
      else if addr.toNat < 0x8000 then .device addr
      else .rom addr.toNat

/-- Push and pull (R62, R63), a word high byte first and low byte first (R64, R65), at 0x0100 + SP. -/
def Obligations.StackAccess : Prop :=
  (∀ sp : Byte, (slot sp).toNat = 0x0100 + sp.toNat) ∧
  (∀ (s : State) (v : Byte), s.BusTotal → push s v = .ok () { s.poke (slot s.sp) v with sp := s.sp - 1 }) ∧
  (∀ s : State, s.BusTotal →
    pull s = .ok (s.peek (slot (s.sp + 1))) { s.afterRead (slot (s.sp + 1)) with sp := s.sp + 1 }) ∧
  (∀ (s : State) (w : Word), s.BusTotal →
    pushWord s w = .ok () { (s.poke (slot s.sp) (hi8 w)).poke (slot (s.sp - 1)) (lo8 w) with sp := s.sp - 2 }) ∧
  (∀ s : State, s.BusTotal →
    pullWord s = .ok (s.peekWord (slot (s.sp + 1)) (slot (s.sp + 2)))
      { s.afterReadWord (slot (s.sp + 1)) (slot (s.sp + 2)) with sp := s.sp + 2 }) ∧
  (∀ (s : State) (v : Byte), s.BusTotal → s.StackIsRam → Memory.wf s.mem = true →
    ∃ t, push s v = .ok () t ∧ pull t = .ok v { s with mem := t.mem })

/-- The byte pushed for P, bit by bit, and P from a pulled byte (R28, R30, R31, R34): pulling what was pushed restores the six flags,
whatever the break bit. -/
def Obligations.StatusByte : Prop :=
  (∀ (p : Flags) (b : Bool),
    (p.pbyte b).getLsbD 7 = p.n ∧ (p.pbyte b).getLsbD 6 = p.v ∧ (p.pbyte b).getLsbD 5 = true ∧ (p.pbyte b).getLsbD 4 = b ∧
    (p.pbyte b).getLsbD 3 = p.d ∧ (p.pbyte b).getLsbD 2 = p.i ∧ (p.pbyte b).getLsbD 1 = p.z ∧ (p.pbyte b).getLsbD 0 = p.c ∧
    Flags.ofByte (p.pbyte b) = p) ∧
  (∀ v : Byte, Flags.ofByte v =
    { n := v.getLsbD 7, v := v.getLsbD 6, d := v.getLsbD 3, i := v.getLsbD 2, z := v.getLsbD 1, c := v.getLsbD 0 })

/-! Addressing modes. -/

/-- Zero-page, zero-page,X and zero-page,Y (R102, R103, R104): the sum is modulo 256, the page is 0, no page is ever crossed and nothing
but the operand byte is read. -/
def Obligations.ZeroPageModes : Prop :=
  ∀ (s : State) (d : Byte),
    resolve (.zp d) s = .ok { ea := BitVec.ofNat 16 d.toNat, cross := false } s ∧
    resolve (.zpx d) s = .ok { ea := BitVec.ofNat 16 ((d.toNat + s.x.toNat) % 256), cross := false } s ∧
    resolve (.zpy d) s = .ok { ea := BitVec.ofNat 16 ((d.toNat + s.y.toNat) % 256), cross := false } s

/-- Absolute, absolute,X and absolute,Y (R105, R106, R107): the sum is modulo 65536, and a page is crossed when the page of the sum is
not the page of the base (R113, D23). -/
def Obligations.AbsoluteModes : Prop :=
  ∀ (s : State) (w : Word),
    resolve (.abs w) s = .ok { ea := w, cross := false } s ∧
    (∃ ea : Word, ea.toNat = (w.toNat + s.x.toNat) % 65536 ∧
      resolve (.absx w) s = .ok { ea := ea, cross := decide (page ea ≠ page w) } s) ∧
    (∃ ea : Word, ea.toNat = (w.toNat + s.y.toNat) % 65536 ∧
      resolve (.absy w) s = .ok { ea := ea, cross := decide (page ea ≠ page w) } s)

/-- (indirect), (zero-page,X) and (zero-page),Y (R108, R109, R110): the addresses of the two pointer bytes, the order they are read in,
and what is added after. -/
def Obligations.PointerModes : Prop :=
  ∀ s : State, s.BusTotal →
    (∀ w : Word, ∃ second : Word,
      second.toNat =
        (if s.params.jmpIndWrap = true then 256 * (w.toNat / 256) + (w.toNat + 1) % 256 else (w.toNat + 1) % 65536) ∧
      resolve (.ind w) s = .ok { ea := s.peekWord w second, cross := false } (s.afterReadWord w second)) ∧
    (∀ d : Byte, ∃ first second : Word,
      first.toNat = (d.toNat + s.x.toNat) % 256 ∧ second.toNat = (d.toNat + s.x.toNat + 1) % 256 ∧
      resolve (.indx d) s = .ok { ea := s.peekWord first second, cross := false } (s.afterReadWord first second)) ∧
    (∀ d : Byte, ∃ first second ea : Word,
      first.toNat = d.toNat ∧ second.toNat = (d.toNat + 1) % 256 ∧
      ea.toNat = ((s.peekWord first second).toNat + s.y.toNat) % 65536 ∧
      resolve (.indy d) s =
        .ok { ea := ea, cross := decide (page ea ≠ page (s.peekWord first second)) } (s.afterReadWord first second))

/-! Loads and stores. -/

/-- LDA (R120): its eight encodings; A and Z, N from the byte, PC past the instruction, nothing else. -/
def Obligations.LoadA : Prop :=
  EightForms .lda .ldaImm .ldaZp .ldaZpx .ldaAbs .ldaAbsx .ldaAbsy .ldaIndx .ldaIndy 0xA9 0xA5 0xB5 0xAD 0xBD 0xB9 0xA1 0xB1 ∧
  ∀ (i : Instr) (s : State), i.mnemonic = .lda → s.BusTotal →
    ∃ v t, ReadsByte s i v t ∧ exec i s = .next { t with a := v, p := { s.p with z := decide (v = 0), n := v.getLsbD 7 } }

/-- LDX (R121): its five encodings; X and Z, N from the byte, PC past the instruction, nothing else. -/
def Obligations.LoadX : Prop :=
  ByteForm .ldxImm .ldx .imm 0xA2 2 false ∧ ByteForm .ldxZp .ldx (fun d => .mem (.zp d)) 0xA6 3 false ∧
  ByteForm .ldxZpy .ldx (fun d => .mem (.zpy d)) 0xB6 4 false ∧ WordForm .ldxAbs .ldx (fun w => .mem (.abs w)) 0xAE 4 false ∧
  WordForm .ldxAbsy .ldx (fun w => .mem (.absy w)) 0xBE 4 true ∧
  ∀ (i : Instr) (s : State), i.mnemonic = .ldx → s.BusTotal →
    ∃ v t, ReadsByte s i v t ∧ exec i s = .next { t with x := v, p := { s.p with z := decide (v = 0), n := v.getLsbD 7 } }

/-- LDY (R122): its five encodings; Y and Z, N from the byte, PC past the instruction, nothing else. -/
def Obligations.LoadY : Prop :=
  ByteForm .ldyImm .ldy .imm 0xA0 2 false ∧ ByteForm .ldyZp .ldy (fun d => .mem (.zp d)) 0xA4 3 false ∧
  ByteForm .ldyZpx .ldy (fun d => .mem (.zpx d)) 0xB4 4 false ∧ WordForm .ldyAbs .ldy (fun w => .mem (.abs w)) 0xAC 4 false ∧
  WordForm .ldyAbsx .ldy (fun w => .mem (.absx w)) 0xBC 4 true ∧
  ∀ (i : Instr) (s : State), i.mnemonic = .ldy → s.BusTotal →
    ∃ v t, ReadsByte s i v t ∧ exec i s = .next { t with y := v, p := { s.p with z := decide (v = 0), n := v.getLsbD 7 } }

/-- STA, STX, STY (R123, R124, R125): their encodings, no form with a page-cross penalty; one write at the effective address, PC past
the instruction, nothing else. -/
def Obligations.Stores : Prop :=
  (ByteForm .staZp .sta (fun d => .mem (.zp d)) 0x85 3 false ∧ ByteForm .staZpx .sta (fun d => .mem (.zpx d)) 0x95 4 false ∧
    WordForm .staAbs .sta (fun w => .mem (.abs w)) 0x8D 4 false ∧ WordForm .staAbsx .sta (fun w => .mem (.absx w)) 0x9D 5 false ∧
    WordForm .staAbsy .sta (fun w => .mem (.absy w)) 0x99 5 false ∧ ByteForm .staIndx .sta (fun d => .mem (.indx d)) 0x81 6 false ∧
    ByteForm .staIndy .sta (fun d => .mem (.indy d)) 0x91 6 false) ∧
  (ByteForm .stxZp .stx (fun d => .mem (.zp d)) 0x86 3 false ∧ ByteForm .stxZpy .stx (fun d => .mem (.zpy d)) 0x96 4 false ∧
    WordForm .stxAbs .stx (fun w => .mem (.abs w)) 0x8E 4 false) ∧
  (ByteForm .styZp .sty (fun d => .mem (.zp d)) 0x84 3 false ∧ ByteForm .styZpx .sty (fun d => .mem (.zpx d)) 0x94 4 false ∧
    WordForm .styAbs .sty (fun w => .mem (.abs w)) 0x8C 4 false) ∧
  ∀ (i : Instr) (s : State), s.BusTotal →
    (i.mnemonic = .sta → ∃ ea t, HasAddress s i ea t ∧ exec i s = .next (t.poke ea s.a)) ∧
    (i.mnemonic = .stx → ∃ ea t, HasAddress s i ea t ∧ exec i s = .next (t.poke ea s.x)) ∧
    (i.mnemonic = .sty → ∃ ea t, HasAddress s i ea t ∧ exec i s = .next (t.poke ea s.y))

/-! Arithmetic and logic. -/

/-- ADC, binary (R131, R130): P.D = 0, or DECIMAL = ignored. V is signed overflow. -/
def Obligations.AdcBinary : Prop :=
  EightForms .adc .adcImm .adcZp .adcZpx .adcAbs .adcAbsx .adcAbsy .adcIndx .adcIndy 0x69 0x65 0x75 0x6D 0x7D 0x79 0x61 0x71 ∧
  ∀ (i : Instr) (s : State), i.mnemonic = .adc → s.BusTotal → s.p.d = false ∨ s.params.decimal = .ignored →
    ∃ m t, ReadsByte s i m t ∧
      let sum := s.a.toNat + m.toNat + s.p.c.toNat
      let r : Byte := BitVec.ofNat 8 sum
      let overflow := ((s.a ^^^ r) &&& (m ^^^ r)).getLsbD 7
      exec i s = .next { t with
        a := r
        p := { s.p with c := decide (sum > 255), v := overflow, z := decide (r = 0), n := r.getLsbD 7 } } ∧
      overflow = decide (signed s.a + signed m + s.p.c.toNat < -128 ∨ signed s.a + signed m + s.p.c.toNat > 127)

/-- ADC, decimal (R132; U3): on valid digits A and C are the decimal sum and carry, Z is the binary sum's, N and V come from the sum
before its last correction; on a digit above 9 the five results are the free value of log 10. -/
def Obligations.AdcDecimal : Prop :=
  ∀ (i : Instr) (s : State), i.mnemonic = .adc → s.BusTotal → s.p.d = true → s.params.decimal = .nmos →
    ∃ m t, ReadsByte s i m t ∧
      (IsBcd s.a ∧ IsBcd m →
        let b := (s.a.toNat + m.toNat + s.p.c.toNat) % 256
        let low := s.a.toNat % 16 + m.toNat % 16 + s.p.c.toNat
        let al := if low ≥ 0x0A then (low + 0x06) % 16 + 0x10 else low
        let u := 16 * (s.a.toNat / 16) + 16 * (m.toNat / 16) + al
        let w := if u ≥ 0xA0 then u + 0x60 else u
        let r : Byte := BitVec.ofNat 8 w
        exec i s = .next { t with
          a := r
          p := { s.p with
            c := decide (w ≥ 0x100)
            z := decide (b = 0)
            n := decide (u / 128 % 2 = 1)
            v := decide (u / 128 % 2 ≠ s.a.toNat / 128 ∧ u / 128 % 2 ≠ m.toNat / 128) } } ∧
        IsBcd r ∧ bcdValue r + (if w ≥ 0x100 then 100 else 0) = bcdValue s.a + bcdValue m + s.p.c.toNat) ∧
      (¬ (IsBcd s.a ∧ IsBcd m) →
        let free := Config.adcInvalidBcd s.a m s.p.c
        exec i s = .next { t with a := free.value, p := { s.p with c := free.c, v := free.v, z := free.z, n := free.n } })

/-- SBC, binary (R133, R130): P.D = 0, or DECIMAL = ignored; it is ADC of the complement of the operand, and V is signed overflow. -/
def Obligations.SbcBinary : Prop :=
  EightForms .sbc .sbcImm .sbcZp .sbcZpx .sbcAbs .sbcAbsx .sbcAbsy .sbcIndx .sbcIndy 0xE9 0xE5 0xF5 0xED 0xFD 0xF9 0xE1 0xF1 ∧
  ∀ (i : Instr) (s : State), i.mnemonic = .sbc → s.BusTotal → s.p.d = false ∨ s.params.decimal = .ignored →
    ∃ m t, ReadsByte s i m t ∧
      let d : Int := (s.a.toNat : Int) - m.toNat - (1 - s.p.c.toNat)
      let r : Byte := BitVec.ofInt 8 d
      let overflow := ((s.a ^^^ m) &&& (s.a ^^^ r)).getLsbD 7
      let sum := s.a.toNat + (m ^^^ 0xFF).toNat + s.p.c.toNat
      exec i s = .next { t with
        a := r
        p := { s.p with c := decide (0 ≤ d), v := overflow, z := decide (r = 0), n := r.getLsbD 7 } } ∧
      overflow = decide (signed s.a - signed m - (1 - s.p.c.toNat) < -128 ∨ signed s.a - signed m - (1 - s.p.c.toNat) > 127) ∧
      r = BitVec.ofNat 8 sum ∧ decide (0 ≤ d) = decide (sum > 255) ∧ overflow = ((s.a ^^^ r) &&& ((m ^^^ 0xFF) ^^^ r)).getLsbD 7

/-- SBC, decimal (R134; U3): on valid digits A is the decimal difference, plus 100 where a borrow occurred, and the four flags are those
of the binary subtraction; on a digit above 9 the five results are the free value of log 10. -/
def Obligations.SbcDecimal : Prop :=
  ∀ (i : Instr) (s : State), i.mnemonic = .sbc → s.BusTotal → s.p.d = true → s.params.decimal = .nmos →
    ∃ m t, ReadsByte s i m t ∧
      (IsBcd s.a ∧ IsBcd m →
        let d : Int := (s.a.toNat : Int) - m.toNat - (1 - s.p.c.toNat)
        let r : Byte := BitVec.ofInt 8 d
        let low : Int := ((s.a.toNat % 16 : Nat) : Int) - ((m.toNat % 16 : Nat) : Int) + s.p.c.toNat - 1
        let al : Int := if low < 0 then (low - 0x06) % 16 - 0x10 else low
        let u : Int := ((16 * (s.a.toNat / 16) : Nat) : Int) - ((16 * (m.toNat / 16) : Nat) : Int) + al
        let q : Byte := BitVec.ofInt 8 (if u < 0 then u - 0x60 else u)
        exec i s = .next { t with
          a := q
          p := { s.p with
            c := decide (0 ≤ d)
            v := ((s.a ^^^ m) &&& (s.a ^^^ r)).getLsbD 7
            z := decide (r = 0)
            n := r.getLsbD 7 } } ∧
        IsBcd q ∧
        (bcdValue q : Int) - (if 0 ≤ d then 0 else 100) = (bcdValue s.a : Int) - bcdValue m - (1 - s.p.c.toNat)) ∧
      (¬ (IsBcd s.a ∧ IsBcd m) →
        let free := Config.sbcInvalidBcd s.a m s.p.c
        exec i s = .next { t with a := free.value, p := { s.p with c := free.c, v := free.v, z := free.z, n := free.n } })

/-- AND, ORA, EOR (R135, R136, R137): their encodings; A and Z, N from the result, nothing else but PC. -/
def Obligations.Logic : Prop :=
  EightForms .and .andImm .andZp .andZpx .andAbs .andAbsx .andAbsy .andIndx .andIndy 0x29 0x25 0x35 0x2D 0x3D 0x39 0x21 0x31 ∧
  EightForms .ora .oraImm .oraZp .oraZpx .oraAbs .oraAbsx .oraAbsy .oraIndx .oraIndy 0x09 0x05 0x15 0x0D 0x1D 0x19 0x01 0x11 ∧
  EightForms .eor .eorImm .eorZp .eorZpx .eorAbs .eorAbsx .eorAbsy .eorIndx .eorIndy 0x49 0x45 0x55 0x4D 0x5D 0x59 0x41 0x51 ∧
  ∀ (i : Instr) (s : State) (f : Byte → Byte → Byte), s.BusTotal →
    (i.mnemonic = .and ∧ f = fun a m => a &&& m) ∨ (i.mnemonic = .ora ∧ f = fun a m => a ||| m) ∨
      (i.mnemonic = .eor ∧ f = fun a m => a ^^^ m) →
    ∃ m t, ReadsByte s i m t ∧ exec i s =
      .next { t with a := f s.a m, p := { s.p with z := decide (f s.a m = 0), n := (f s.a m).getLsbD 7 } }

/-- BIT (R138): Z from A & m, N and V from bits 7 and 6 of m; A is not changed. -/
def Obligations.BitTest : Prop :=
  ByteForm .bitZp .bit (fun d => .mem (.zp d)) 0x24 3 false ∧ WordForm .bitAbs .bit (fun w => .mem (.abs w)) 0x2C 4 false ∧
  ∀ (i : Instr) (s : State), i.mnemonic = .bit → s.BusTotal →
    ∃ m t, ReadsByte s i m t ∧ exec i s =
      .next { t with p := { s.p with z := decide (s.a &&& m = 0), n := m.getLsbD 7, v := m.getLsbD 6 } }

/-- ASL, LSR, ROL, ROR (R140 to R144): on A without a transaction; on memory one read, then one write of the same address, and A is
unchanged. C is the bit shifted out, Z and N are the result's, V, D, I are unchanged. -/
def Obligations.Shifts : Prop :=
  ShiftForms .asl .aslAcc .aslZp .aslZpx .aslAbs .aslAbsx 0x0A 0x06 0x16 0x0E 0x1E ∧
  ShiftForms .lsr .lsrAcc .lsrZp .lsrZpx .lsrAbs .lsrAbsx 0x4A 0x46 0x56 0x4E 0x5E ∧
  ShiftForms .rol .rolAcc .rolZp .rolZpx .rolAbs .rolAbsx 0x2A 0x26 0x36 0x2E 0x3E ∧
  ShiftForms .ror .rorAcc .rorZp .rorZpx .rorAbs .rorAbsx 0x6A 0x66 0x76 0x6E 0x7E ∧
  (∀ (i : Instr) (s : State), i.mnemonic ∈ [.asl, .lsr, .rol, .ror] → i.operand = .acc →
    ∃ r c, ShiftsTo i.mnemonic s.a s.p.c r c ∧ exec i s =
      .next { s with a := r, pc := s.pc + 1, p := { s.p with c := c, z := decide (r = 0), n := r.getLsbD 7 } }) ∧
  (∀ (i : Instr) (s : State), i.mnemonic ∈ [.asl, .lsr, .rol, .ror] → i.operand ≠ .acc → s.BusTotal →
    ∃ ea t v u r c, HasAddress s i ea t ∧ busRead t ea = .ok v u ∧ ShiftsTo i.mnemonic v s.p.c r c ∧ exec i s =
      .next { u.poke ea r with p := { s.p with c := c, z := decide (r = 0), n := r.getLsbD 7 } })

/-- CMP, CPX, CPY (R150 to R153): their encodings; only C, Z, N and PC are written. -/
def Obligations.Compares : Prop :=
  EightForms .cmp .cmpImm .cmpZp .cmpZpx .cmpAbs .cmpAbsx .cmpAbsy .cmpIndx .cmpIndy 0xC9 0xC5 0xD5 0xCD 0xDD 0xD9 0xC1 0xD1 ∧
  (ByteForm .cpxImm .cpx .imm 0xE0 2 false ∧ ByteForm .cpxZp .cpx (fun d => .mem (.zp d)) 0xE4 3 false ∧
    WordForm .cpxAbs .cpx (fun w => .mem (.abs w)) 0xEC 4 false) ∧
  (ByteForm .cpyImm .cpy .imm 0xC0 2 false ∧ ByteForm .cpyZp .cpy (fun d => .mem (.zp d)) 0xC4 3 false ∧
    WordForm .cpyAbs .cpy (fun w => .mem (.abs w)) 0xCC 4 false) ∧
  ∀ (i : Instr) (s : State) (reg : Byte), s.BusTotal →
    (i.mnemonic = .cmp ∧ reg = s.a) ∨ (i.mnemonic = .cpx ∧ reg = s.x) ∨ (i.mnemonic = .cpy ∧ reg = s.y) →
    ∃ m t, ReadsByte s i m t ∧ exec i s =
      .next { t with p := { s.p with c := decide (reg.toNat ≥ m.toNat), z := decide (reg = m), n := (reg - m).getLsbD 7 } }

/-! Control flow. -/

/-- The eight branches (R155 to R163): which flag, which sense, the target, and 2, 3 or 4 cycles. -/
def Obligations.BranchInstructions : Prop :=
  Branches .bcc 0x90 (fun p => !p.c) ∧ Branches .bcs 0xB0 (fun p => p.c) ∧
  Branches .beq 0xF0 (fun p => p.z) ∧ Branches .bne 0xD0 (fun p => !p.z) ∧
  Branches .bmi 0x30 (fun p => p.n) ∧ Branches .bpl 0x10 (fun p => !p.n) ∧
  Branches .bvc 0x50 (fun p => !p.v) ∧ Branches .bvs 0x70 (fun p => p.v)

/-- JMP (R171, R172): PC becomes the operand, or the word at the pointer, whose second byte comes from the pointer's own page when
JMP_IND_WRAP is true. -/
def Obligations.Jumps : Prop :=
  WordForm .jmpAbs .jmp (fun w => .mem (.abs w)) 0x4C 3 false ∧ WordForm .jmpInd .jmp (fun w => .mem (.ind w)) 0x6C 5 false ∧
  (∀ (w : Word) (s : State), exec (.jmpAbs w) s = .next { s with pc := w }) ∧
  (∀ (w : Word) (s : State), s.BusTotal →
    ∃ second : Word,
      second.toNat =
        (if s.params.jmpIndWrap = true then 256 * (w.toNat / 256) + (w.toNat + 1) % 256 else (w.toNat + 1) % 65536) ∧
      exec (.jmpInd w) s = .next { s with pc := s.peekWord w second, io := (s.afterReadWord w second).io })

/-- JSR (R173): the address of its own last byte is pushed, high byte first, and PC becomes the operand. -/
def Obligations.JumpToSubroutine : Prop :=
  WordForm .jsr .jsr (fun w => .mem (.abs w)) 0x20 6 false ∧
  ∀ (w : Word) (s : State), s.BusTotal → exec (.jsr w) s =
    .next { (s.poke (slot s.sp) (hi8 (s.pc + 2))).poke (slot (s.sp - 1)) (lo8 (s.pc + 2)) with sp := s.sp - 2, pc := w }

/-- RTS (R174): PC is the pulled word plus one. -/
def Obligations.ReturnFromSubroutine : Prop :=
  PlainForm .rts .rts .imp 0x60 6 ∧
  ∀ s : State, s.BusTotal → exec .rts s =
    .next { s with
      sp := s.sp + 2
      pc := s.peekWord (slot (s.sp + 1)) (slot (s.sp + 2)) + 1
      io := (s.afterReadWord (slot (s.sp + 1)) (slot (s.sp + 2))).io }

/-- RTI (R175): the six flags, then PC, with no adjustment. -/
def Obligations.ReturnFromInterrupt : Prop :=
  PlainForm .rti .rti .imp 0x40 6 ∧
  ∀ s : State, s.BusTotal →
    let v := s.peek (slot (s.sp + 1))
    let t := s.afterRead (slot (s.sp + 1))
    exec .rti s = .next { s with
      sp := s.sp + 3
      p := { n := v.getLsbD 7, v := v.getLsbD 6, d := v.getLsbD 3, i := v.getLsbD 2, z := v.getLsbD 1, c := v.getLsbD 0 }
      pc := t.peekWord (slot (s.sp + 2)) (slot (s.sp + 3))
      io := (t.afterReadWord (slot (s.sp + 2)) (slot (s.sp + 3))).io }

/-- BRK (R176): PC of the opcode + 1 + BRK_PAD and P with the break bit are pushed, I is set, PC comes from the IRQ/BRK vector; taken
whatever I is. -/
def Obligations.Break : Prop :=
  PlainForm .brk .brk .imp 0x00 7 ∧
  ∀ s : State, s.BusTotal →
    exec .brk s = .next (s.trapEntry (s.pc + 1 + BitVec.ofNat 16 s.params.brkPad.val) true 0xFFFE)

/-! The stack instructions, the flags, the transfers, the increments and decrements. -/

/-- PHA and PHP (R180, R182): one write at 0x0100 + SP, SP less one, no flag. -/
def Obligations.Pushes : Prop :=
  PlainForm .pha .pha .imp 0x48 3 ∧ PlainForm .php .php .imp 0x08 3 ∧
  ∀ s : State, s.BusTotal →
    exec .pha s = .next { s.poke (slot s.sp) s.a with sp := s.sp - 1, pc := s.pc + 1 } ∧
    exec .php s = .next { s.poke (slot s.sp) (s.p.pbyte true) with sp := s.sp - 1, pc := s.pc + 1 }

/-- PLA and PLP (R181, R183): SP plus one, one read at 0x0100 + SP; PLA sets Z and N, PLP all six flags. -/
def Obligations.Pulls : Prop :=
  PlainForm .pla .pla .imp 0x68 4 ∧ PlainForm .plp .plp .imp 0x28 4 ∧
  ∀ s : State, s.BusTotal →
    let v := s.peek (slot (s.sp + 1))
    let t := s.afterRead (slot (s.sp + 1))
    exec .pla s = .next { t with
      a := v, sp := s.sp + 1, pc := s.pc + 1, p := { s.p with z := decide (v = 0), n := v.getLsbD 7 } } ∧
    exec .plp s = .next { t with
      sp := s.sp + 1
      pc := s.pc + 1
      p := { n := v.getLsbD 7, v := v.getLsbD 6, d := v.getLsbD 3, i := v.getLsbD 2, z := v.getLsbD 1, c := v.getLsbD 0 } }

/-- CLC, SEC, CLI, SEI, CLD, SED, CLV, NOP (R190 to R197): one flag and PC, or PC alone. -/
def Obligations.FlagInstructions : Prop :=
  (PlainForm .clc .clc .imp 0x18 2 ∧ PlainForm .sec .sec .imp 0x38 2 ∧ PlainForm .cli .cli .imp 0x58 2 ∧
    PlainForm .sei .sei .imp 0x78 2 ∧ PlainForm .cld .cld .imp 0xD8 2 ∧ PlainForm .sed .sed .imp 0xF8 2 ∧
    PlainForm .clv .clv .imp 0xB8 2 ∧ PlainForm .nop .nop .imp 0xEA 2) ∧
  ∀ s : State,
    exec .clc s = .next { s with pc := s.pc + 1, p := { s.p with c := false } } ∧
    exec .sec s = .next { s with pc := s.pc + 1, p := { s.p with c := true } } ∧
    exec .cli s = .next { s with pc := s.pc + 1, p := { s.p with i := false } } ∧
    exec .sei s = .next { s with pc := s.pc + 1, p := { s.p with i := true } } ∧
    exec .cld s = .next { s with pc := s.pc + 1, p := { s.p with d := false } } ∧
    exec .sed s = .next { s with pc := s.pc + 1, p := { s.p with d := true } } ∧
    exec .clv s = .next { s with pc := s.pc + 1, p := { s.p with v := false } } ∧
    exec .nop s = .next { s with pc := s.pc + 1 }

/-- TAX, TAY, TXA, TYA, TSX, TXS (R200 to R205): TXS is the one that leaves Z and N alone. -/
def Obligations.Transfers : Prop :=
  (PlainForm .tax .tax .imp 0xAA 2 ∧ PlainForm .tay .tay .imp 0xA8 2 ∧ PlainForm .txa .txa .imp 0x8A 2 ∧
    PlainForm .tya .tya .imp 0x98 2 ∧ PlainForm .tsx .tsx .imp 0xBA 2 ∧ PlainForm .txs .txs .imp 0x9A 2) ∧
  ∀ s : State,
    exec .tax s = .next { s with x := s.a, pc := s.pc + 1, p := { s.p with z := decide (s.a = 0), n := s.a.getLsbD 7 } } ∧
    exec .tay s = .next { s with y := s.a, pc := s.pc + 1, p := { s.p with z := decide (s.a = 0), n := s.a.getLsbD 7 } } ∧
    exec .txa s = .next { s with a := s.x, pc := s.pc + 1, p := { s.p with z := decide (s.x = 0), n := s.x.getLsbD 7 } } ∧
    exec .tya s = .next { s with a := s.y, pc := s.pc + 1, p := { s.p with z := decide (s.y = 0), n := s.y.getLsbD 7 } } ∧
    exec .tsx s = .next { s with x := s.sp, pc := s.pc + 1, p := { s.p with z := decide (s.sp = 0), n := s.sp.getLsbD 7 } } ∧
    exec .txs s = .next { s with sp := s.x, pc := s.pc + 1 }

/-- INX, INY, DEX, DEY (R206 to R209): modulo 256; Z and N, not C, not V. -/
def Obligations.RegisterSteps : Prop :=
  (PlainForm .inx .inx .imp 0xE8 2 ∧ PlainForm .iny .iny .imp 0xC8 2 ∧ PlainForm .dex .dex .imp 0xCA 2 ∧
    PlainForm .dey .dey .imp 0x88 2) ∧
  ∀ (s : State) (r : Byte),
    (r.toNat = (s.x.toNat + 1) % 256 →
      exec .inx s = .next { s with x := r, pc := s.pc + 1, p := { s.p with z := decide (r = 0), n := r.getLsbD 7 } }) ∧
    (r.toNat = (s.y.toNat + 1) % 256 →
      exec .iny s = .next { s with y := r, pc := s.pc + 1, p := { s.p with z := decide (r = 0), n := r.getLsbD 7 } }) ∧
    (r.toNat = (s.x.toNat + 255) % 256 →
      exec .dex s = .next { s with x := r, pc := s.pc + 1, p := { s.p with z := decide (r = 0), n := r.getLsbD 7 } }) ∧
    (r.toNat = (s.y.toNat + 255) % 256 →
      exec .dey s = .next { s with y := r, pc := s.pc + 1, p := { s.p with z := decide (r = 0), n := r.getLsbD 7 } })

/-- INC and DEC (R210, R211): one read, one write of the same address, modulo 256; Z and N of the byte written. -/
def Obligations.MemorySteps : Prop :=
  (ByteForm .incZp .inc (fun d => .mem (.zp d)) 0xE6 5 false ∧ ByteForm .incZpx .inc (fun d => .mem (.zpx d)) 0xF6 6 false ∧
    WordForm .incAbs .inc (fun w => .mem (.abs w)) 0xEE 6 false ∧ WordForm .incAbsx .inc (fun w => .mem (.absx w)) 0xFE 7 false) ∧
  (ByteForm .decZp .dec (fun d => .mem (.zp d)) 0xC6 5 false ∧ ByteForm .decZpx .dec (fun d => .mem (.zpx d)) 0xD6 6 false ∧
    WordForm .decAbs .dec (fun w => .mem (.abs w)) 0xCE 6 false ∧ WordForm .decAbsx .dec (fun w => .mem (.absx w)) 0xDE 7 false) ∧
  ∀ (i : Instr) (s : State) (k : Nat), s.BusTotal → (i.mnemonic = .inc ∧ k = 1) ∨ (i.mnemonic = .dec ∧ k = 255) →
    ∃ ea t v u r, HasAddress s i ea t ∧ busRead t ea = .ok v u ∧ r.toNat = (v.toNat + k) % 256 ∧ exec i s =
      .next { u.poke ea r with p := { s.p with z := decide (r = 0), n := r.getLsbD 7 } }

/-! Interrupts and traps. -/

/-- NMI service (R222, R223): whatever I is; PC and P with break 0 pushed, I set, PC from 0xFFFA, the bit cleared, 7 cycles. -/
def Obligations.NmiService : Prop :=
  ∀ s : State, s.run = .running → s.BusTotal → s.nmiPending = true →
    runCall s = .returned { s.trapEntry s.pc false 0xFFFA with nmiPending := false } 7

/-- IRQ service (R222, R225): with no NMI pending and I = 0; PC from 0xFFFE, the bit cleared, 7 cycles. -/
def Obligations.IrqService : Prop :=
  ∀ s : State, s.run = .running → s.BusTotal → s.nmiPending = false → s.irqPending = true → s.p.i = false →
    runCall s = .returned { s.trapEntry s.pc false 0xFFFE with irqPending := false } 7

/-- The mask and the priority (R221, R224, R226): with both bits set the NMI goes first and the IRQ then waits, masked; a masked IRQ
waits through an instruction; after CLI the very next call services it. -/
def Obligations.MaskAndPriority : Prop :=
  (∀ s : State, s.run = .running → s.BusTotal → s.nmiPending = true → s.irqPending = true →
    ∃ t, step s = .next t ∧ t.irqPending = true ∧ t.p.i = true ∧ t.NoService) ∧
  (∀ s t : State, s.nmiPending = false → s.irqPending = true → s.p.i = true → step s = .next t → t.irqPending = true) ∧
  (∀ s : State, s.run = .running → s.BusTotal → s.nmiPending = false → s.irqPending = true →
    ∃ t, exec .cli s = .next t ∧ runCall t = .returned { t.trapEntry t.pc false 0xFFFE with irqPending := false } 7)

/-- RTI undoes what taking a trap did (R175, R232): after a service it is back where the interrupted stream was, with P and SP as they
were; after BRK two bytes past the opcode with BRK_PAD = 1. -/
def Obligations.TrapReturns : Prop :=
  ∀ s : State, s.run = .running → s.BusTotal → s.StackIsRam → Memory.wf s.mem = true →
    (s.nmiPending = true ∨ (s.irqPending = true ∧ s.p.i = false) →
      ∃ t u, step s = .next t ∧ exec .rti t = .next u ∧ u.pc = s.pc ∧ u.p = s.p ∧ u.sp = s.sp ∧ u.a = s.a ∧ u.x = s.x ∧
        u.y = s.y) ∧
    (∃ t u, exec .brk s = .next t ∧ exec .rti t = .next u ∧ u.pc = s.pc + 1 + BitVec.ofNat 16 s.params.brkPad.val ∧
      u.p = s.p ∧ u.sp = s.sp ∧ u.a = s.a ∧ u.x = s.x ∧ u.y = s.y)

/-- RTS undoes JSR (R170, R173, R174): it continues at the instruction after the JSR, and but for PC and the two stack bytes that JSR
wrote all is as before. -/
def Obligations.CallReturns : Prop :=
  ∀ (s : State) (w : Word), s.BusTotal → s.StackIsRam → Memory.wf s.mem = true →
    ∃ t, exec (.jsr w) s = .next t ∧ exec .rts t = .next { s with
      pc := s.pc + 3
      mem := ((s.poke (slot s.sp) (hi8 (s.pc + 2))).poke (slot (s.sp - 1)) (lo8 (s.pc + 2))).mem }

/-- The four round trips of R184. -/
def Obligations.StackRoundTrips : Prop :=
  ∀ s : State, s.BusTotal → s.StackIsRam → Memory.wf s.mem = true →
    (∃ t, exec .pha s = .next t ∧ t.peek (slot s.sp) = s.a ∧ exec .pla t =
      .next { s with pc := s.pc + 2, mem := t.mem, p := { s.p with z := decide (s.a = 0), n := s.a.getLsbD 7 } }) ∧
    (∃ t, exec .php s = .next t ∧ exec .plp t = .next { s with pc := s.pc + 2, mem := t.mem }) ∧
    (∃ t u, exec .php s = .next t ∧ exec .pla t = .next u ∧ u.sp = s.sp ∧
      u.a.getLsbD 7 = s.p.n ∧ u.a.getLsbD 6 = s.p.v ∧ u.a.getLsbD 5 = true ∧ u.a.getLsbD 4 = true ∧ u.a.getLsbD 3 = s.p.d ∧
      u.a.getLsbD 2 = s.p.i ∧ u.a.getLsbD 1 = s.p.z ∧ u.a.getLsbD 0 = s.p.c) ∧
    (∃ t u, exec .pha s = .next t ∧ exec .plp t = .next u ∧ u.sp = s.sp ∧ u.p =
      { n := s.a.getLsbD 7, v := s.a.getLsbD 6, d := s.a.getLsbD 3, i := s.a.getLsbD 2, z := s.a.getLsbD 1, c := s.a.getLsbD 0 })

/-! The step and the faults. -/

/-- A step runs the decoded instruction (R221, R227): in Running, with nothing to service, when the bytes at PC decode to `i`, the step
is `exec i` in the state the reads of those bytes left, in which only the history can differ and PC is still at the opcode (each
meaning moves PC past its own bytes, log 13), and the cycles are the instruction's (R275). -/
def Obligations.StepRunsDecoded : Prop :=
  ∀ (s t : State) (bs : List Byte) (i : Instr), s.run = .running → s.NoService →
    fetchBytes i.length s.pc s = .ok bs t → decode bs = .ok (i, []) →
    step s = exec i t ∧ t = { s with io := t.io } ∧
      ∀ u, exec i t = .next u → runCall s = .returned u (instrCycles i t)

/-- An illegal opcode byte at PC (R88, R240): one read, the call aborted, the machine Faulted, PC still at the byte, nothing else
changed; and the fault has no other cause. -/
def Obligations.IllegalOpcodeFaults : Prop :=
  (∀ s : State, s.run = .running → s.NoService → s.refuses s.pc = false → s.peek s.pc ∈ illegalBytes →
    step s = .fault (.illegalOpcode (s.peek s.pc) s.pc) ∧
    runCall s = .aborted (.illegalOpcode (s.peek s.pc) s.pc) { s with run := .faulted, io := (s.afterRead s.pc).io }) ∧
  (∀ (s : State) (op : Byte) (addr : Word), step s = .fault (.illegalOpcode op addr) →
    s.run = .running ∧ s.NoService ∧ addr = s.pc ∧ op = s.peek s.pc ∧ op ∈ illegalBytes)

/-- Every other fault is an address the bus refuses (R241, R242); after a fault the machine is Faulted and has no step (R243). That a
refused opcode fetch leaves every register, the memory and the history as they were is the model's reading (DEDUCED, log 9). -/
def Obligations.FaultCauses : Prop :=
  (∀ (i : Instr) (s : State) (r : Refusal), exec i s ≠ .refused r) ∧
  (∀ (i : Instr) (s : State) (f : Fault), exec i s = .fault f → ∃ addr u, f = .busFault addr u ∧ s.refuses addr = true) ∧
  (∀ (s : State) (f : Fault), step s = .fault f →
    (∃ op, f = .illegalOpcode op s.pc) ∨ ∃ addr u, f = .busFault addr u ∧ s.refuses addr = true) ∧
  (∀ s : State, s.run = .running → s.NoService → s.refuses s.pc = true →
    runCall s = .aborted (.busFault s.pc s) { s with run := .faulted }) ∧
  (∀ (s t : State) (f : Fault), runCall s = .aborted f t → t.run = .faulted ∧ step t = .refused .faulted) ∧
  (∀ (s t : State) (addr : Word), resetCall s = .refused addr t → t.run = .faulted ∧ s.refuses addr = true)

/-- On a total bus every instruction completes (R52, R242), and no instruction changes the pending bits, the run state, the map or the
parameters (R37, R40, R4). -/
def Obligations.EveryInstructionCompletes : Prop :=
  ∀ (i : Instr) (s : State), s.BusTotal →
    ∃ t, exec i s = .next t ∧ t.irqPending = s.irqPending ∧ t.nmiPending = s.nmiPending ∧ t.run = s.run ∧ t.bus = s.bus ∧
      t.params = s.params

/-! What an instruction leaves unchanged. -/

/-- The writers of A, X, Y, SP and PC (R21 to R24, R26): any other instruction leaves the register, or moves PC past itself. -/
def Obligations.RegisterWriters : Prop :=
  ∀ (i : Instr) (s t : State), exec i s = .next t →
    (i.mnemonic ∉ [.adc, .sbc, .and, .ora, .eor, .lda, .pla, .txa, .tya] → i.operand ≠ .acc → t.a = s.a) ∧
    (i.mnemonic ∉ [.ldx, .tax, .tsx, .inx, .dex] → t.x = s.x) ∧
    (i.mnemonic ∉ [.ldy, .tay, .iny, .dey] → t.y = s.y) ∧
    (i.mnemonic ∉ [.pha, .php, .pla, .plp, .jsr, .rts, .brk, .rti, .txs] → t.sp = s.sp) ∧
    (i.mnemonic ∉ [.bcc, .bcs, .beq, .bne, .bmi, .bpl, .bvc, .bvs, .jmp, .jsr, .rts, .brk, .rti] →
      t.pc = s.pc + BitVec.ofNat 16 i.length)

/-- The writers of each flag (R33): any other instruction leaves it. -/
def Obligations.FlagWriters : Prop :=
  ∀ (i : Instr) (s t : State), exec i s = .next t →
    (i.mnemonic ∉ [.lda, .ldx, .ldy, .adc, .sbc, .and, .ora, .eor, .asl, .lsr, .rol, .ror, .cmp, .cpx, .cpy, .inc, .dec, .inx,
        .iny, .dex, .dey, .tax, .tay, .txa, .tya, .tsx, .pla, .bit, .plp, .rti] → t.p.n = s.p.n ∧ t.p.z = s.p.z) ∧
    (i.mnemonic ∉ [.adc, .sbc, .bit, .clv, .plp, .rti] → t.p.v = s.p.v) ∧
    (i.mnemonic ∉ [.sed, .cld, .plp, .rti] → t.p.d = s.p.d) ∧
    (i.mnemonic ∉ [.sei, .cli, .brk, .plp, .rti] → t.p.i = s.p.i) ∧
    (i.mnemonic ∉ [.adc, .sbc, .asl, .lsr, .rol, .ror, .cmp, .cpx, .cpy, .sec, .clc, .plp, .rti] → t.p.c = s.p.c)

/-- Memory under every instruction (R57, R62, R126): the byte of a cell, RAM or ROM, reads as before unless the instruction stores to that
RAM cell; the address stored to is the effective address for stores, INC, DEC and shifts of memory, and the stack slots for JSR, BRK,
PHA and PHP; every other instruction leaves every byte. That a store to a ROM address leaves the ROM's byte is the model's choice
(DESIGN CHOICE, log 3, on U8), and so is that no device's side effect changes a cell within the instruction (DESIGN CHOICE, log 15, on
R72). -/
def Obligations.MemoryFrame : Prop :=
  ∀ (i : Instr) (s t : State), Memory.wf s.mem = true → exec i s = .next t →
    ∀ (b : Word) (k : Nat), s.route b = .ram k ∨ s.route b = .rom k →
      (i.mnemonic ∈ storeTypes ∨ i.mnemonic ∈ rmwTypes → ∀ (ea : Word) (u : State), HasAddress s i ea u → s.route ea ≠ .ram k →
        t.peek b = s.peek b) ∧
      (i.mnemonic = .pha ∨ i.mnemonic = .php → s.route (slot s.sp) ≠ .ram k → t.peek b = s.peek b) ∧
      (i.mnemonic = .jsr → s.route (slot s.sp) ≠ .ram k → s.route (slot (s.sp - 1)) ≠ .ram k → t.peek b = s.peek b) ∧
      (i.mnemonic = .brk → s.route (slot s.sp) ≠ .ram k → s.route (slot (s.sp - 1)) ≠ .ram k →
        s.route (slot (s.sp - 2)) ≠ .ram k → t.peek b = s.peek b) ∧
      (i.mnemonic ∈ readTypes ∨ i.mnemonic ∈ registerTypes ∨ i.mnemonic ∈ [.jmp, .rts, .rti, .pla, .plp] ∨ i.operand = .acc →
        t.peek b = s.peek b)

/-- The transactions of a fetch, of a service and of each instruction, in order, seen on a bus where every address is a device register
(R57, R58): no dummy read, no double write, no read of BRK's padding byte (D14). An immediate operand is read with the instruction's
other bytes (R101, D27, log 13). -/
def Obligations.Transactions : Prop :=
  ∀ s : State, (∀ addr, s.route addr = .device addr) →
    (∀ (n : Nat) (addr : Word) (bs : List Byte) (t : State), fetchBytes n addr s = .ok bs t →
      t.Adds s ((List.range n).map fun k => .read (addr + BitVec.ofNat 16 k))) ∧
    (∀ t, finish (serviceNmi s) = .next t → ∃ h l p, t.Adds s
      [.write (slot s.sp) h, .write (slot (s.sp - 1)) l, .write (slot (s.sp - 2)) p, .read 0xFFFA, .read 0xFFFB]) ∧
    (∀ t, finish (serviceIrq s) = .next t → ∃ h l p, t.Adds s
      [.write (slot s.sp) h, .write (slot (s.sp - 1)) l, .write (slot (s.sp - 2)) p, .read 0xFFFE, .read 0xFFFF]) ∧
    ∀ (i : Instr) (t : State), exec i s = .next t →
      (∀ (m : MemOperand) (ea : Word) (u : State), i.operand = .mem m → HasAddress s i ea u →
        (i.mnemonic ∈ readTypes → t.Adds s (pointerReads s m ++ [.read ea])) ∧
        (i.mnemonic ∈ storeTypes → ∃ v, t.Adds s (pointerReads s m ++ [.write ea v])) ∧
        (i.mnemonic ∈ rmwTypes → ∃ v, t.Adds s (pointerReads s m ++ [.read ea, .write ea v])) ∧
        (i.mnemonic = .jmp → t.Adds s (pointerReads s m))) ∧
      (i.mnemonic = .pha ∨ i.mnemonic = .php → ∃ v, t.Adds s [.write (slot s.sp) v]) ∧
      (i.mnemonic = .pla ∨ i.mnemonic = .plp → t.Adds s [.read (slot (s.sp + 1))]) ∧
      (i.mnemonic = .jsr → ∃ h l, t.Adds s [.write (slot s.sp) h, .write (slot (s.sp - 1)) l]) ∧
      (i.mnemonic = .rts → t.Adds s [.read (slot (s.sp + 1)), .read (slot (s.sp + 2))]) ∧
      (i.mnemonic = .rti → t.Adds s [.read (slot (s.sp + 1)), .read (slot (s.sp + 2)), .read (slot (s.sp + 3))]) ∧
      (i.mnemonic = .brk → ∃ h l p, t.Adds s
        [.write (slot s.sp) h, .write (slot (s.sp - 1)) l, .write (slot (s.sp - 2)) p, .read 0xFFFE, .read 0xFFFF]) ∧
      (i.mnemonic ∈ registerTypes ∨ i.operand = .acc → t.Adds s []) ∧
      (∀ v, i.operand = .imm v → t.Adds s [])

/-! Invariants of every step. -/

/-- Every step keeps the machine Running with its memory in canonical form, keeps the map and the parameters, and only adds to the
history. -/
def Obligations.StepKeepsInvariant : Prop :=
  ∀ s t : State, s.Inv → step s = .next t → t.Inv ∧ t.bus = s.bus ∧ t.params = s.params ∧ s.io <+: t.io

/-- The state after reset meets the invariant, and its bus is total. -/
def Obligations.ResetInvariant : Prop := State.reset.Inv ∧ State.reset.BusTotal

/-- On the console's map no step, whether instruction or service, changes a byte of program ROM, and the only cells that can change are
the 2048 of RAM (R68; that a write to ROM changes nothing is log 3's reading of U8, and that a device's side effect changes no cell within the call is
the choice of log 15, on R72). -/
def Obligations.OnlyRamChanges : Prop :=
  ∀ s t : State, s.bus = consoleMap → Memory.wf s.mem = true → step s = .next t →
    t.bus = consoleMap ∧ Memory.wf t.mem = true ∧ (∀ k, k ≥ 0x0800 → t.mem.read k = s.mem.read k) ∧
    ∀ addr : Word, addr.toNat ≥ 0x8000 → t.peek addr = s.peek addr

/-! Refused instruction bytes. -/

/-- A refused operand byte (R241, R60, R101): the call is aborted with the earlier bytes read, and what it leaves is the model's reading
(DEDUCED, log 9): PC is the refused byte's address, but past it where it is an immediate operand, and nothing else but the history has
changed. -/
def Obligations.RefusedOperandByte : Prop :=
  ∀ (s : State) (i : Instr), s.run = .running → s.NoService → s.refuses s.pc = false → s.peek s.pc = i.opcode →
    (i.length ≥ 2 → s.refuses (s.pc + 1) = true →
      let left : State := { s with pc := if i.mode = .imm then s.pc + 2 else s.pc + 1, io := (s.afterRead s.pc).io }
      runCall s = .aborted (.busFault (s.pc + 1) left) { left with run := .faulted }) ∧
    (i.length = 3 → s.refuses (s.pc + 1) = false → s.refuses (s.pc + 2) = true →
      let left : State := { s with pc := s.pc + 2, io := (s.afterReadWord s.pc (s.pc + 1)).io }
      runCall s = .aborted (.busFault (s.pc + 2) left) { left with run := .faulted })

end
end

