-- ==== Sys2Proof/Laws/Bits.lean ====
section
/-! SUPPORT. The small lemmas of the notation (R5, R6): joining and taking apart a word, sign extension, stack locations, pages. -/

namespace Sys2Proof

theorem word_toNat (h l : Byte) : (word h l).toNat = 256 * h.toNat + l.toNat := by
  have := l.isLt
  rw [word, BitVec.toNat_append, ← Nat.shiftLeft_add_eq_or_of_lt (by omega), Nat.shiftLeft_eq]
  omega

theorem lo8_toNat (w : Word) : (lo8 w).toNat = w.toNat % 256 := by
  simp [lo8, BitVec.extractLsb'_toNat]

theorem hi8_toNat (w : Word) : (hi8 w).toNat = w.toNat / 256 := by
  have := w.isLt
  simp only [hi8, BitVec.extractLsb'_toNat, Nat.shiftRight_eq_div_pow]
  omega

@[simp] theorem word_hi8_lo8 (w : Word) : word (hi8 w) (lo8 w) = w := by
  apply BitVec.eq_of_toNat_eq
  rw [word_toNat, lo8_toNat, hi8_toNat]
  omega

@[simp] theorem lo8_word (h l : Byte) : lo8 (word h l) = l := by
  have := l.isLt
  apply BitVec.eq_of_toNat_eq
  rw [lo8_toNat, word_toNat]
  omega

@[simp] theorem hi8_word (h l : Byte) : hi8 (word h l) = h := by
  have := l.isLt
  apply BitVec.eq_of_toNat_eq
  rw [hi8_toNat, word_toNat]
  omega

theorem zext16_toNat (b : Byte) : (zext16 b).toNat = b.toNat := by
  have := b.isLt
  simp [zext16]
  omega

theorem sext16_toNat (b : Byte) : (sext16 b).toNat = if b.toNat ≥ 128 then b.toNat + 65280 else b.toNat := by
  revert b
  decide

namespace Machine

theorem zeroPage_toNat (d : Byte) : (zeroPage d).toNat = d.toNat := by
  rw [zeroPage, word_toNat]
  simp

/-- The two ways to name a stack location are one (R24, R61). -/
theorem stackAddr_eq_slot (sp : Byte) : stackAddr sp = slot sp := by
  have := sp.isLt
  apply BitVec.eq_of_toNat_eq
  rw [stackAddr, word_toNat, slot, BitVec.toNat_add, BitVec.toNat_setWidth]
  simp
  omega

theorem hi8_eq_iff_page (a b : Word) : hi8 a = hi8 b ↔ page a = page b := by
  rw [← BitVec.toNat_inj, hi8_toNat, hi8_toNat]
  rfl

/-- The target of a branch, as the resolver computes it (R112). -/
theorem target_eq (s : State) (d : Byte) : s.pc + 2 + sext16 d = s.target d := by
  have := d.isLt
  apply BitVec.eq_of_toNat_eq
  rw [State.target, BitVec.toNat_add, sext16_toNat, BitVec.toNat_ofInt, signed]
  split <;> omega

end Machine

end Sys2Proof
end

