-- ==== Sys2Proof/Laws/Memory.lean ====
section
/-! SUPPORT. The laws of memory: reads after writes, and every operation keeps the canonical form. -/

namespace Sys2Proof.Machine

/-- The read of a list whose head is known. -/
theorem Memory.read_cons (i k : Nat) (b : Byte) (m : Memory) :
    Memory.read ((i, b) :: m) k = if i = k then b else m.read k := rfl

theorem Memory.read_insert (m : Memory) (k j : Nat) (v : Byte) :
    (Memory.insert m k v).read j = if j = k then v else m.read j := by
  induction m with
  | nil =>
    rw [Memory.insert, Memory.read_cons]
    by_cases h : k = j <;> simp [h, eq_comm]
  | cons c m ih =>
    obtain ⟨i, b⟩ := c
    rw [Memory.insert]
    by_cases h1 : k < i
    · rw [if_pos h1, Memory.read_cons]
      by_cases h : k = j <;> simp [h, eq_comm]
    · rw [if_neg h1]
      by_cases h2 : i = k
      · rw [if_pos h2, Memory.read_cons, Memory.read_cons, h2]
        by_cases h : k = j <;> simp [h, eq_comm]
      · rw [if_neg h2, Memory.read_cons, Memory.read_cons, ih]
        by_cases h : i = j
        · subst h
          simp [h2]
        · simp [h]

/-- A key at or below every listed one is not listed. -/
theorem Memory.read_of_above (m : Memory) (k : Nat) (hw : m.wf = true) (ha : m.above k = true) :
    m.read k = Memory.unlisted k := by
  induction m generalizing k with
  | nil => rfl
  | cons c m ih =>
    obtain ⟨i, b⟩ := c
    simp only [Memory.wf, Memory.above, Bool.and_eq_true, decide_eq_true_eq] at hw ha
    have hik : i ≠ k := by omega
    simp only [Memory.read, hik, if_false]
    refine ih k hw.2 ?_
    cases m with
    | nil => rfl
    | cons d m =>
      simp only [Memory.above, decide_eq_true_eq] at hw ⊢
      omega

theorem Memory.read_erase (m : Memory) (k j : Nat) (hw : m.wf = true) :
    (Memory.erase m k).read j = if j = k then Memory.unlisted k else m.read j := by
  induction m with
  | nil =>
    simp only [Memory.erase, Memory.read]
    split_ifs <;> simp_all
  | cons c m ih =>
    obtain ⟨i, b⟩ := c
    have hw' := hw
    simp only [Memory.wf, Bool.and_eq_true] at hw'
    simp only [Memory.erase]
    split_ifs with h1 h2 h2
    · subst h1 h2
      exact Memory.read_of_above m j hw'.2 hw'.1.2
    · subst h1
      simp [Memory.read, Ne.symm h2]
    · subst h2
      simp [Memory.read, h1, ih hw'.2]
    · simp [Memory.read, ih hw'.2, h2]

/-- A read after a write: the byte written at the cell, what was there everywhere else. -/
theorem Memory.read_write (m : Memory) (k j : Nat) (v : Byte) (hw : m.wf = true) :
    (m.write k v).read j = if j = k then v else m.read j := by
  unfold Memory.write
  split_ifs with h1 h2 h2
  · rw [Memory.read_erase m k j hw, if_pos h2, h1]
  · rw [Memory.read_erase m k j hw, if_neg h2]
  · rw [Memory.read_insert, if_pos h2]
  · rw [Memory.read_insert, if_neg h2]

theorem Memory.above_insert (m : Memory) (k j : Nat) (v : Byte) (hm : m.above j = true) (hk : j < k) :
    (Memory.insert m k v).above j = true := by
  cases m with
  | nil => simpa [Memory.insert, Memory.above]
  | cons c m =>
    obtain ⟨i, b⟩ := c
    simp only [Memory.insert]
    split_ifs <;> simpa [Memory.above] using by first | exact hk | simpa [Memory.above] using hm

theorem Memory.insert_wf (m : Memory) (k : Nat) (v : Byte) (hw : m.wf = true) (hk : k < 65536)
    (hv : v ≠ Memory.unlisted k) : (Memory.insert m k v).wf = true := by
  induction m with
  | nil => simp [Memory.insert, Memory.wf, Memory.above, hk, hv]
  | cons c m ih =>
    obtain ⟨i, b⟩ := c
    have hw' := hw
    simp only [Memory.wf, Bool.and_eq_true, decide_eq_true_eq] at hw'
    simp only [Memory.insert]
    split_ifs with h1 h2
    · simp only [Memory.wf, Memory.above, Bool.and_eq_true, decide_eq_true_eq]
      exact ⟨⟨⟨hk, hv⟩, h1⟩, hw'⟩
    · subst h2
      simp only [Memory.wf, Bool.and_eq_true, decide_eq_true_eq]
      exact ⟨⟨⟨hk, hv⟩, hw'.1.2⟩, hw'.2⟩
    · simp only [Memory.wf, Bool.and_eq_true, decide_eq_true_eq]
      exact ⟨⟨hw'.1.1, Memory.above_insert m k i v hw'.1.2 (by omega)⟩, ih hw'.2⟩

/-- Every key above `j` is above a smaller one. -/
theorem Memory.above_mono (m : Memory) (i j : Nat) (h : m.above j = true) (hij : i < j) : m.above i = true := by
  cases m with
  | nil => rfl
  | cons c m =>
    simp only [Memory.above, decide_eq_true_eq] at h ⊢
    omega

theorem Memory.above_erase (m : Memory) (k j : Nat) (hw : m.wf = true) (hm : m.above j = true) :
    (Memory.erase m k).above j = true := by
  cases m with
  | nil => rfl
  | cons c m =>
    obtain ⟨i, b⟩ := c
    simp only [Memory.wf, Bool.and_eq_true, decide_eq_true_eq] at hw
    have hji : j < i := by simpa [Memory.above] using hm
    simp only [Memory.erase]
    split_ifs
    · exact Memory.above_mono m j i hw.1.2 hji
    · simpa [Memory.above] using hji

theorem Memory.erase_wf (m : Memory) (k : Nat) (hw : m.wf = true) : (Memory.erase m k).wf = true := by
  induction m with
  | nil => rfl
  | cons c m ih =>
    obtain ⟨i, b⟩ := c
    have hw' := hw
    simp only [Memory.wf, Bool.and_eq_true, decide_eq_true_eq] at hw'
    simp only [Memory.erase]
    split_ifs
    · exact hw'.2
    · simp only [Memory.wf, Bool.and_eq_true, decide_eq_true_eq]
      exact ⟨⟨hw'.1.1, Memory.above_erase m k i hw'.2 hw'.1.2⟩, ih hw'.2⟩

/-- A write of a cell of the address space keeps the canonical form. -/
theorem Memory.write_wf (m : Memory) (k : Nat) (v : Byte) (hw : m.wf = true) (hk : k < 65536) :
    (m.write k v).wf = true := by
  unfold Memory.write
  split_ifs with h
  · exact Memory.erase_wf m k hw
  · exact Memory.insert_wf m k v hw hk h

end Sys2Proof.Machine
end

