-- ==== Sys2Proof/Laws/State.lean ====
section
/-! SUPPORT. The small lemmas of State: one per field per named update. -/

namespace Sys2Proof.Machine

@[simp] theorem State.withA_a (s : State) (v : Byte) : (s.withA v).a = v := rfl
@[simp] theorem State.withA_x (s : State) (v : Byte) : (s.withA v).x = s.x := rfl
@[simp] theorem State.withA_y (s : State) (v : Byte) : (s.withA v).y = s.y := rfl
@[simp] theorem State.withA_sp (s : State) (v : Byte) : (s.withA v).sp = s.sp := rfl
@[simp] theorem State.withA_pc (s : State) (v : Byte) : (s.withA v).pc = s.pc := rfl
@[simp] theorem State.withA_p (s : State) (v : Byte) : (s.withA v).p = s.p := rfl
@[simp] theorem State.withA_irqPending (s : State) (v : Byte) : (s.withA v).irqPending = s.irqPending := rfl
@[simp] theorem State.withA_nmiPending (s : State) (v : Byte) : (s.withA v).nmiPending = s.nmiPending := rfl
@[simp] theorem State.withA_run (s : State) (v : Byte) : (s.withA v).run = s.run := rfl
@[simp] theorem State.withA_mem (s : State) (v : Byte) : (s.withA v).mem = s.mem := rfl
@[simp] theorem State.withA_io (s : State) (v : Byte) : (s.withA v).io = s.io := rfl
@[simp] theorem State.withA_bus (s : State) (v : Byte) : (s.withA v).bus = s.bus := rfl
@[simp] theorem State.withA_params (s : State) (v : Byte) : (s.withA v).params = s.params := rfl

@[simp] theorem State.withX_a (s : State) (v : Byte) : (s.withX v).a = s.a := rfl
@[simp] theorem State.withX_x (s : State) (v : Byte) : (s.withX v).x = v := rfl
@[simp] theorem State.withX_y (s : State) (v : Byte) : (s.withX v).y = s.y := rfl
@[simp] theorem State.withX_sp (s : State) (v : Byte) : (s.withX v).sp = s.sp := rfl
@[simp] theorem State.withX_pc (s : State) (v : Byte) : (s.withX v).pc = s.pc := rfl
@[simp] theorem State.withX_p (s : State) (v : Byte) : (s.withX v).p = s.p := rfl
@[simp] theorem State.withX_irqPending (s : State) (v : Byte) : (s.withX v).irqPending = s.irqPending := rfl
@[simp] theorem State.withX_nmiPending (s : State) (v : Byte) : (s.withX v).nmiPending = s.nmiPending := rfl
@[simp] theorem State.withX_run (s : State) (v : Byte) : (s.withX v).run = s.run := rfl
@[simp] theorem State.withX_mem (s : State) (v : Byte) : (s.withX v).mem = s.mem := rfl
@[simp] theorem State.withX_io (s : State) (v : Byte) : (s.withX v).io = s.io := rfl
@[simp] theorem State.withX_bus (s : State) (v : Byte) : (s.withX v).bus = s.bus := rfl
@[simp] theorem State.withX_params (s : State) (v : Byte) : (s.withX v).params = s.params := rfl

@[simp] theorem State.withY_a (s : State) (v : Byte) : (s.withY v).a = s.a := rfl
@[simp] theorem State.withY_x (s : State) (v : Byte) : (s.withY v).x = s.x := rfl
@[simp] theorem State.withY_y (s : State) (v : Byte) : (s.withY v).y = v := rfl
@[simp] theorem State.withY_sp (s : State) (v : Byte) : (s.withY v).sp = s.sp := rfl
@[simp] theorem State.withY_pc (s : State) (v : Byte) : (s.withY v).pc = s.pc := rfl
@[simp] theorem State.withY_p (s : State) (v : Byte) : (s.withY v).p = s.p := rfl
@[simp] theorem State.withY_irqPending (s : State) (v : Byte) : (s.withY v).irqPending = s.irqPending := rfl
@[simp] theorem State.withY_nmiPending (s : State) (v : Byte) : (s.withY v).nmiPending = s.nmiPending := rfl
@[simp] theorem State.withY_run (s : State) (v : Byte) : (s.withY v).run = s.run := rfl
@[simp] theorem State.withY_mem (s : State) (v : Byte) : (s.withY v).mem = s.mem := rfl
@[simp] theorem State.withY_io (s : State) (v : Byte) : (s.withY v).io = s.io := rfl
@[simp] theorem State.withY_bus (s : State) (v : Byte) : (s.withY v).bus = s.bus := rfl
@[simp] theorem State.withY_params (s : State) (v : Byte) : (s.withY v).params = s.params := rfl

@[simp] theorem State.withSp_a (s : State) (v : Byte) : (s.withSp v).a = s.a := rfl
@[simp] theorem State.withSp_x (s : State) (v : Byte) : (s.withSp v).x = s.x := rfl
@[simp] theorem State.withSp_y (s : State) (v : Byte) : (s.withSp v).y = s.y := rfl
@[simp] theorem State.withSp_sp (s : State) (v : Byte) : (s.withSp v).sp = v := rfl
@[simp] theorem State.withSp_pc (s : State) (v : Byte) : (s.withSp v).pc = s.pc := rfl
@[simp] theorem State.withSp_p (s : State) (v : Byte) : (s.withSp v).p = s.p := rfl
@[simp] theorem State.withSp_irqPending (s : State) (v : Byte) : (s.withSp v).irqPending = s.irqPending := rfl
@[simp] theorem State.withSp_nmiPending (s : State) (v : Byte) : (s.withSp v).nmiPending = s.nmiPending := rfl
@[simp] theorem State.withSp_run (s : State) (v : Byte) : (s.withSp v).run = s.run := rfl
@[simp] theorem State.withSp_mem (s : State) (v : Byte) : (s.withSp v).mem = s.mem := rfl
@[simp] theorem State.withSp_io (s : State) (v : Byte) : (s.withSp v).io = s.io := rfl
@[simp] theorem State.withSp_bus (s : State) (v : Byte) : (s.withSp v).bus = s.bus := rfl
@[simp] theorem State.withSp_params (s : State) (v : Byte) : (s.withSp v).params = s.params := rfl

@[simp] theorem State.withPc_a (s : State) (v : Word) : (s.withPc v).a = s.a := rfl
@[simp] theorem State.withPc_x (s : State) (v : Word) : (s.withPc v).x = s.x := rfl
@[simp] theorem State.withPc_y (s : State) (v : Word) : (s.withPc v).y = s.y := rfl
@[simp] theorem State.withPc_sp (s : State) (v : Word) : (s.withPc v).sp = s.sp := rfl
@[simp] theorem State.withPc_pc (s : State) (v : Word) : (s.withPc v).pc = v := rfl
@[simp] theorem State.withPc_p (s : State) (v : Word) : (s.withPc v).p = s.p := rfl
@[simp] theorem State.withPc_irqPending (s : State) (v : Word) : (s.withPc v).irqPending = s.irqPending := rfl
@[simp] theorem State.withPc_nmiPending (s : State) (v : Word) : (s.withPc v).nmiPending = s.nmiPending := rfl
@[simp] theorem State.withPc_run (s : State) (v : Word) : (s.withPc v).run = s.run := rfl
@[simp] theorem State.withPc_mem (s : State) (v : Word) : (s.withPc v).mem = s.mem := rfl
@[simp] theorem State.withPc_io (s : State) (v : Word) : (s.withPc v).io = s.io := rfl
@[simp] theorem State.withPc_bus (s : State) (v : Word) : (s.withPc v).bus = s.bus := rfl
@[simp] theorem State.withPc_params (s : State) (v : Word) : (s.withPc v).params = s.params := rfl

@[simp] theorem State.withP_a (s : State) (v : Flags) : (s.withP v).a = s.a := rfl
@[simp] theorem State.withP_x (s : State) (v : Flags) : (s.withP v).x = s.x := rfl
@[simp] theorem State.withP_y (s : State) (v : Flags) : (s.withP v).y = s.y := rfl
@[simp] theorem State.withP_sp (s : State) (v : Flags) : (s.withP v).sp = s.sp := rfl
@[simp] theorem State.withP_pc (s : State) (v : Flags) : (s.withP v).pc = s.pc := rfl
@[simp] theorem State.withP_p (s : State) (v : Flags) : (s.withP v).p = v := rfl
@[simp] theorem State.withP_irqPending (s : State) (v : Flags) : (s.withP v).irqPending = s.irqPending := rfl
@[simp] theorem State.withP_nmiPending (s : State) (v : Flags) : (s.withP v).nmiPending = s.nmiPending := rfl
@[simp] theorem State.withP_run (s : State) (v : Flags) : (s.withP v).run = s.run := rfl
@[simp] theorem State.withP_mem (s : State) (v : Flags) : (s.withP v).mem = s.mem := rfl
@[simp] theorem State.withP_io (s : State) (v : Flags) : (s.withP v).io = s.io := rfl
@[simp] theorem State.withP_bus (s : State) (v : Flags) : (s.withP v).bus = s.bus := rfl
@[simp] theorem State.withP_params (s : State) (v : Flags) : (s.withP v).params = s.params := rfl

@[simp] theorem State.withIrqPending_a (s : State) (v : Bool) : (s.withIrqPending v).a = s.a := rfl
@[simp] theorem State.withIrqPending_x (s : State) (v : Bool) : (s.withIrqPending v).x = s.x := rfl
@[simp] theorem State.withIrqPending_y (s : State) (v : Bool) : (s.withIrqPending v).y = s.y := rfl
@[simp] theorem State.withIrqPending_sp (s : State) (v : Bool) : (s.withIrqPending v).sp = s.sp := rfl
@[simp] theorem State.withIrqPending_pc (s : State) (v : Bool) : (s.withIrqPending v).pc = s.pc := rfl
@[simp] theorem State.withIrqPending_p (s : State) (v : Bool) : (s.withIrqPending v).p = s.p := rfl
@[simp] theorem State.withIrqPending_irqPending (s : State) (v : Bool) : (s.withIrqPending v).irqPending = v := rfl
@[simp] theorem State.withIrqPending_nmiPending (s : State) (v : Bool) : (s.withIrqPending v).nmiPending = s.nmiPending := rfl
@[simp] theorem State.withIrqPending_run (s : State) (v : Bool) : (s.withIrqPending v).run = s.run := rfl
@[simp] theorem State.withIrqPending_mem (s : State) (v : Bool) : (s.withIrqPending v).mem = s.mem := rfl
@[simp] theorem State.withIrqPending_io (s : State) (v : Bool) : (s.withIrqPending v).io = s.io := rfl
@[simp] theorem State.withIrqPending_bus (s : State) (v : Bool) : (s.withIrqPending v).bus = s.bus := rfl
@[simp] theorem State.withIrqPending_params (s : State) (v : Bool) : (s.withIrqPending v).params = s.params := rfl

@[simp] theorem State.withNmiPending_a (s : State) (v : Bool) : (s.withNmiPending v).a = s.a := rfl
@[simp] theorem State.withNmiPending_x (s : State) (v : Bool) : (s.withNmiPending v).x = s.x := rfl
@[simp] theorem State.withNmiPending_y (s : State) (v : Bool) : (s.withNmiPending v).y = s.y := rfl
@[simp] theorem State.withNmiPending_sp (s : State) (v : Bool) : (s.withNmiPending v).sp = s.sp := rfl
@[simp] theorem State.withNmiPending_pc (s : State) (v : Bool) : (s.withNmiPending v).pc = s.pc := rfl
@[simp] theorem State.withNmiPending_p (s : State) (v : Bool) : (s.withNmiPending v).p = s.p := rfl
@[simp] theorem State.withNmiPending_irqPending (s : State) (v : Bool) : (s.withNmiPending v).irqPending = s.irqPending := rfl
@[simp] theorem State.withNmiPending_nmiPending (s : State) (v : Bool) : (s.withNmiPending v).nmiPending = v := rfl
@[simp] theorem State.withNmiPending_run (s : State) (v : Bool) : (s.withNmiPending v).run = s.run := rfl
@[simp] theorem State.withNmiPending_mem (s : State) (v : Bool) : (s.withNmiPending v).mem = s.mem := rfl
@[simp] theorem State.withNmiPending_io (s : State) (v : Bool) : (s.withNmiPending v).io = s.io := rfl
@[simp] theorem State.withNmiPending_bus (s : State) (v : Bool) : (s.withNmiPending v).bus = s.bus := rfl
@[simp] theorem State.withNmiPending_params (s : State) (v : Bool) : (s.withNmiPending v).params = s.params := rfl

@[simp] theorem State.withRun_a (s : State) (v : RunState) : (s.withRun v).a = s.a := rfl
@[simp] theorem State.withRun_x (s : State) (v : RunState) : (s.withRun v).x = s.x := rfl
@[simp] theorem State.withRun_y (s : State) (v : RunState) : (s.withRun v).y = s.y := rfl
@[simp] theorem State.withRun_sp (s : State) (v : RunState) : (s.withRun v).sp = s.sp := rfl
@[simp] theorem State.withRun_pc (s : State) (v : RunState) : (s.withRun v).pc = s.pc := rfl
@[simp] theorem State.withRun_p (s : State) (v : RunState) : (s.withRun v).p = s.p := rfl
@[simp] theorem State.withRun_irqPending (s : State) (v : RunState) : (s.withRun v).irqPending = s.irqPending := rfl
@[simp] theorem State.withRun_nmiPending (s : State) (v : RunState) : (s.withRun v).nmiPending = s.nmiPending := rfl
@[simp] theorem State.withRun_run (s : State) (v : RunState) : (s.withRun v).run = v := rfl
@[simp] theorem State.withRun_mem (s : State) (v : RunState) : (s.withRun v).mem = s.mem := rfl
@[simp] theorem State.withRun_io (s : State) (v : RunState) : (s.withRun v).io = s.io := rfl
@[simp] theorem State.withRun_bus (s : State) (v : RunState) : (s.withRun v).bus = s.bus := rfl
@[simp] theorem State.withRun_params (s : State) (v : RunState) : (s.withRun v).params = s.params := rfl

@[simp] theorem State.withMem_a (s : State) (v : Memory) : (s.withMem v).a = s.a := rfl
@[simp] theorem State.withMem_x (s : State) (v : Memory) : (s.withMem v).x = s.x := rfl
@[simp] theorem State.withMem_y (s : State) (v : Memory) : (s.withMem v).y = s.y := rfl
@[simp] theorem State.withMem_sp (s : State) (v : Memory) : (s.withMem v).sp = s.sp := rfl
@[simp] theorem State.withMem_pc (s : State) (v : Memory) : (s.withMem v).pc = s.pc := rfl
@[simp] theorem State.withMem_p (s : State) (v : Memory) : (s.withMem v).p = s.p := rfl
@[simp] theorem State.withMem_irqPending (s : State) (v : Memory) : (s.withMem v).irqPending = s.irqPending := rfl
@[simp] theorem State.withMem_nmiPending (s : State) (v : Memory) : (s.withMem v).nmiPending = s.nmiPending := rfl
@[simp] theorem State.withMem_run (s : State) (v : Memory) : (s.withMem v).run = s.run := rfl
@[simp] theorem State.withMem_mem (s : State) (v : Memory) : (s.withMem v).mem = v := rfl
@[simp] theorem State.withMem_io (s : State) (v : Memory) : (s.withMem v).io = s.io := rfl
@[simp] theorem State.withMem_bus (s : State) (v : Memory) : (s.withMem v).bus = s.bus := rfl
@[simp] theorem State.withMem_params (s : State) (v : Memory) : (s.withMem v).params = s.params := rfl

@[simp] theorem State.withIo_a (s : State) (v : List BusEvent) : (s.withIo v).a = s.a := rfl
@[simp] theorem State.withIo_x (s : State) (v : List BusEvent) : (s.withIo v).x = s.x := rfl
@[simp] theorem State.withIo_y (s : State) (v : List BusEvent) : (s.withIo v).y = s.y := rfl
@[simp] theorem State.withIo_sp (s : State) (v : List BusEvent) : (s.withIo v).sp = s.sp := rfl
@[simp] theorem State.withIo_pc (s : State) (v : List BusEvent) : (s.withIo v).pc = s.pc := rfl
@[simp] theorem State.withIo_p (s : State) (v : List BusEvent) : (s.withIo v).p = s.p := rfl
@[simp] theorem State.withIo_irqPending (s : State) (v : List BusEvent) : (s.withIo v).irqPending = s.irqPending := rfl
@[simp] theorem State.withIo_nmiPending (s : State) (v : List BusEvent) : (s.withIo v).nmiPending = s.nmiPending := rfl
@[simp] theorem State.withIo_run (s : State) (v : List BusEvent) : (s.withIo v).run = s.run := rfl
@[simp] theorem State.withIo_mem (s : State) (v : List BusEvent) : (s.withIo v).mem = s.mem := rfl
@[simp] theorem State.withIo_io (s : State) (v : List BusEvent) : (s.withIo v).io = v := rfl
@[simp] theorem State.withIo_bus (s : State) (v : List BusEvent) : (s.withIo v).bus = s.bus := rfl
@[simp] theorem State.withIo_params (s : State) (v : List BusEvent) : (s.withIo v).params = s.params := rfl

@[simp] theorem State.advance_a (s : State) (n : Nat) : (s.advance n).a = s.a := rfl
@[simp] theorem State.advance_x (s : State) (n : Nat) : (s.advance n).x = s.x := rfl
@[simp] theorem State.advance_y (s : State) (n : Nat) : (s.advance n).y = s.y := rfl
@[simp] theorem State.advance_sp (s : State) (n : Nat) : (s.advance n).sp = s.sp := rfl
@[simp] theorem State.advance_pc (s : State) (n : Nat) : (s.advance n).pc = s.pc + BitVec.ofNat 16 n := rfl
@[simp] theorem State.advance_p (s : State) (n : Nat) : (s.advance n).p = s.p := rfl
@[simp] theorem State.advance_irqPending (s : State) (n : Nat) : (s.advance n).irqPending = s.irqPending := rfl
@[simp] theorem State.advance_nmiPending (s : State) (n : Nat) : (s.advance n).nmiPending = s.nmiPending := rfl
@[simp] theorem State.advance_run (s : State) (n : Nat) : (s.advance n).run = s.run := rfl
@[simp] theorem State.advance_mem (s : State) (n : Nat) : (s.advance n).mem = s.mem := rfl
@[simp] theorem State.advance_io (s : State) (n : Nat) : (s.advance n).io = s.io := rfl
@[simp] theorem State.advance_bus (s : State) (n : Nat) : (s.advance n).bus = s.bus := rfl
@[simp] theorem State.advance_params (s : State) (n : Nat) : (s.advance n).params = s.params := rfl

@[simp] theorem State.toFaulted_a (s : State) : (s.toFaulted).a = s.a := rfl
@[simp] theorem State.toFaulted_x (s : State) : (s.toFaulted).x = s.x := rfl
@[simp] theorem State.toFaulted_y (s : State) : (s.toFaulted).y = s.y := rfl
@[simp] theorem State.toFaulted_sp (s : State) : (s.toFaulted).sp = s.sp := rfl
@[simp] theorem State.toFaulted_pc (s : State) : (s.toFaulted).pc = s.pc := rfl
@[simp] theorem State.toFaulted_p (s : State) : (s.toFaulted).p = s.p := rfl
@[simp] theorem State.toFaulted_irqPending (s : State) : (s.toFaulted).irqPending = s.irqPending := rfl
@[simp] theorem State.toFaulted_nmiPending (s : State) : (s.toFaulted).nmiPending = s.nmiPending := rfl
@[simp] theorem State.toFaulted_run (s : State) : (s.toFaulted).run = .faulted := rfl
@[simp] theorem State.toFaulted_mem (s : State) : (s.toFaulted).mem = s.mem := rfl
@[simp] theorem State.toFaulted_io (s : State) : (s.toFaulted).io = s.io := rfl
@[simp] theorem State.toFaulted_bus (s : State) : (s.toFaulted).bus = s.bus := rfl
@[simp] theorem State.toFaulted_params (s : State) : (s.toFaulted).params = s.params := rfl

@[simp] theorem loadA_a (v : Byte) (s : State) : (loadA v s).a = v := rfl
@[simp] theorem loadA_x (v : Byte) (s : State) : (loadA v s).x = s.x := rfl
@[simp] theorem loadA_y (v : Byte) (s : State) : (loadA v s).y = s.y := rfl
@[simp] theorem loadA_sp (v : Byte) (s : State) : (loadA v s).sp = s.sp := rfl
@[simp] theorem loadA_pc (v : Byte) (s : State) : (loadA v s).pc = s.pc := rfl
@[simp] theorem loadA_p (v : Byte) (s : State) : (loadA v s).p = s.p.setZN v := rfl
@[simp] theorem loadA_irqPending (v : Byte) (s : State) : (loadA v s).irqPending = s.irqPending := rfl
@[simp] theorem loadA_nmiPending (v : Byte) (s : State) : (loadA v s).nmiPending = s.nmiPending := rfl
@[simp] theorem loadA_run (v : Byte) (s : State) : (loadA v s).run = s.run := rfl
@[simp] theorem loadA_mem (v : Byte) (s : State) : (loadA v s).mem = s.mem := rfl
@[simp] theorem loadA_io (v : Byte) (s : State) : (loadA v s).io = s.io := rfl
@[simp] theorem loadA_bus (v : Byte) (s : State) : (loadA v s).bus = s.bus := rfl
@[simp] theorem loadA_params (v : Byte) (s : State) : (loadA v s).params = s.params := rfl

@[simp] theorem loadX_a (v : Byte) (s : State) : (loadX v s).a = s.a := rfl
@[simp] theorem loadX_x (v : Byte) (s : State) : (loadX v s).x = v := rfl
@[simp] theorem loadX_y (v : Byte) (s : State) : (loadX v s).y = s.y := rfl
@[simp] theorem loadX_sp (v : Byte) (s : State) : (loadX v s).sp = s.sp := rfl
@[simp] theorem loadX_pc (v : Byte) (s : State) : (loadX v s).pc = s.pc := rfl
@[simp] theorem loadX_p (v : Byte) (s : State) : (loadX v s).p = s.p.setZN v := rfl
@[simp] theorem loadX_irqPending (v : Byte) (s : State) : (loadX v s).irqPending = s.irqPending := rfl
@[simp] theorem loadX_nmiPending (v : Byte) (s : State) : (loadX v s).nmiPending = s.nmiPending := rfl
@[simp] theorem loadX_run (v : Byte) (s : State) : (loadX v s).run = s.run := rfl
@[simp] theorem loadX_mem (v : Byte) (s : State) : (loadX v s).mem = s.mem := rfl
@[simp] theorem loadX_io (v : Byte) (s : State) : (loadX v s).io = s.io := rfl
@[simp] theorem loadX_bus (v : Byte) (s : State) : (loadX v s).bus = s.bus := rfl
@[simp] theorem loadX_params (v : Byte) (s : State) : (loadX v s).params = s.params := rfl

@[simp] theorem loadY_a (v : Byte) (s : State) : (loadY v s).a = s.a := rfl
@[simp] theorem loadY_x (v : Byte) (s : State) : (loadY v s).x = s.x := rfl
@[simp] theorem loadY_y (v : Byte) (s : State) : (loadY v s).y = v := rfl
@[simp] theorem loadY_sp (v : Byte) (s : State) : (loadY v s).sp = s.sp := rfl
@[simp] theorem loadY_pc (v : Byte) (s : State) : (loadY v s).pc = s.pc := rfl
@[simp] theorem loadY_p (v : Byte) (s : State) : (loadY v s).p = s.p.setZN v := rfl
@[simp] theorem loadY_irqPending (v : Byte) (s : State) : (loadY v s).irqPending = s.irqPending := rfl
@[simp] theorem loadY_nmiPending (v : Byte) (s : State) : (loadY v s).nmiPending = s.nmiPending := rfl
@[simp] theorem loadY_run (v : Byte) (s : State) : (loadY v s).run = s.run := rfl
@[simp] theorem loadY_mem (v : Byte) (s : State) : (loadY v s).mem = s.mem := rfl
@[simp] theorem loadY_io (v : Byte) (s : State) : (loadY v s).io = s.io := rfl
@[simp] theorem loadY_bus (v : Byte) (s : State) : (loadY v s).bus = s.bus := rfl
@[simp] theorem loadY_params (v : Byte) (s : State) : (loadY v s).params = s.params := rfl

@[simp] theorem setArith_a (r : AluResult) (s : State) : (setArith r s).a = r.value := rfl
@[simp] theorem setArith_x (r : AluResult) (s : State) : (setArith r s).x = s.x := rfl
@[simp] theorem setArith_y (r : AluResult) (s : State) : (setArith r s).y = s.y := rfl
@[simp] theorem setArith_sp (r : AluResult) (s : State) : (setArith r s).sp = s.sp := rfl
@[simp] theorem setArith_pc (r : AluResult) (s : State) : (setArith r s).pc = s.pc := rfl
@[simp] theorem setArith_p (r : AluResult) (s : State) : (setArith r s).p = s.p.setArith r := rfl
@[simp] theorem setArith_irqPending (r : AluResult) (s : State) : (setArith r s).irqPending = s.irqPending := rfl
@[simp] theorem setArith_nmiPending (r : AluResult) (s : State) : (setArith r s).nmiPending = s.nmiPending := rfl
@[simp] theorem setArith_run (r : AluResult) (s : State) : (setArith r s).run = s.run := rfl
@[simp] theorem setArith_mem (r : AluResult) (s : State) : (setArith r s).mem = s.mem := rfl
@[simp] theorem setArith_io (r : AluResult) (s : State) : (setArith r s).io = s.io := rfl
@[simp] theorem setArith_bus (r : AluResult) (s : State) : (setArith r s).bus = s.bus := rfl
@[simp] theorem setArith_params (r : AluResult) (s : State) : (setArith r s).params = s.params := rfl

@[simp] theorem bitA_a (m : Byte) (s : State) : (bitA m s).a = s.a := rfl
@[simp] theorem bitA_x (m : Byte) (s : State) : (bitA m s).x = s.x := rfl
@[simp] theorem bitA_y (m : Byte) (s : State) : (bitA m s).y = s.y := rfl
@[simp] theorem bitA_sp (m : Byte) (s : State) : (bitA m s).sp = s.sp := rfl
@[simp] theorem bitA_pc (m : Byte) (s : State) : (bitA m s).pc = s.pc := rfl
@[simp] theorem bitA_p (m : Byte) (s : State) : (bitA m s).p = s.p.setBit s.a m := rfl
@[simp] theorem bitA_irqPending (m : Byte) (s : State) : (bitA m s).irqPending = s.irqPending := rfl
@[simp] theorem bitA_nmiPending (m : Byte) (s : State) : (bitA m s).nmiPending = s.nmiPending := rfl
@[simp] theorem bitA_run (m : Byte) (s : State) : (bitA m s).run = s.run := rfl
@[simp] theorem bitA_mem (m : Byte) (s : State) : (bitA m s).mem = s.mem := rfl
@[simp] theorem bitA_io (m : Byte) (s : State) : (bitA m s).io = s.io := rfl
@[simp] theorem bitA_bus (m : Byte) (s : State) : (bitA m s).bus = s.bus := rfl
@[simp] theorem bitA_params (m : Byte) (s : State) : (bitA m s).params = s.params := rfl

@[simp] theorem compareWith_a (reg : State → Byte) (m : Byte) (s : State) : (compareWith reg m s).a = s.a := rfl
@[simp] theorem compareWith_x (reg : State → Byte) (m : Byte) (s : State) : (compareWith reg m s).x = s.x := rfl
@[simp] theorem compareWith_y (reg : State → Byte) (m : Byte) (s : State) : (compareWith reg m s).y = s.y := rfl
@[simp] theorem compareWith_sp (reg : State → Byte) (m : Byte) (s : State) : (compareWith reg m s).sp = s.sp := rfl
@[simp] theorem compareWith_pc (reg : State → Byte) (m : Byte) (s : State) : (compareWith reg m s).pc = s.pc := rfl
@[simp] theorem compareWith_p (reg : State → Byte) (m : Byte) (s : State) : (compareWith reg m s).p = s.p.setCompare (reg s) m := rfl
@[simp] theorem compareWith_irqPending (reg : State → Byte) (m : Byte) (s : State) : (compareWith reg m s).irqPending = s.irqPending := rfl
@[simp] theorem compareWith_nmiPending (reg : State → Byte) (m : Byte) (s : State) : (compareWith reg m s).nmiPending = s.nmiPending := rfl
@[simp] theorem compareWith_run (reg : State → Byte) (m : Byte) (s : State) : (compareWith reg m s).run = s.run := rfl
@[simp] theorem compareWith_mem (reg : State → Byte) (m : Byte) (s : State) : (compareWith reg m s).mem = s.mem := rfl
@[simp] theorem compareWith_io (reg : State → Byte) (m : Byte) (s : State) : (compareWith reg m s).io = s.io := rfl
@[simp] theorem compareWith_bus (reg : State → Byte) (m : Byte) (s : State) : (compareWith reg m s).bus = s.bus := rfl
@[simp] theorem compareWith_params (reg : State → Byte) (m : Byte) (s : State) : (compareWith reg m s).params = s.params := rfl

@[simp] theorem assertIrq_a (s : State) : (assertIrq s).a = s.a := rfl
@[simp] theorem assertIrq_x (s : State) : (assertIrq s).x = s.x := rfl
@[simp] theorem assertIrq_y (s : State) : (assertIrq s).y = s.y := rfl
@[simp] theorem assertIrq_sp (s : State) : (assertIrq s).sp = s.sp := rfl
@[simp] theorem assertIrq_pc (s : State) : (assertIrq s).pc = s.pc := rfl
@[simp] theorem assertIrq_p (s : State) : (assertIrq s).p = s.p := rfl
@[simp] theorem assertIrq_irqPending (s : State) : (assertIrq s).irqPending = true := rfl
@[simp] theorem assertIrq_nmiPending (s : State) : (assertIrq s).nmiPending = s.nmiPending := rfl
@[simp] theorem assertIrq_run (s : State) : (assertIrq s).run = s.run := rfl
@[simp] theorem assertIrq_mem (s : State) : (assertIrq s).mem = s.mem := rfl
@[simp] theorem assertIrq_io (s : State) : (assertIrq s).io = s.io := rfl
@[simp] theorem assertIrq_bus (s : State) : (assertIrq s).bus = s.bus := rfl
@[simp] theorem assertIrq_params (s : State) : (assertIrq s).params = s.params := rfl

@[simp] theorem deassertIrq_a (s : State) : (deassertIrq s).a = s.a := rfl
@[simp] theorem deassertIrq_x (s : State) : (deassertIrq s).x = s.x := rfl
@[simp] theorem deassertIrq_y (s : State) : (deassertIrq s).y = s.y := rfl
@[simp] theorem deassertIrq_sp (s : State) : (deassertIrq s).sp = s.sp := rfl
@[simp] theorem deassertIrq_pc (s : State) : (deassertIrq s).pc = s.pc := rfl
@[simp] theorem deassertIrq_p (s : State) : (deassertIrq s).p = s.p := rfl
@[simp] theorem deassertIrq_irqPending (s : State) : (deassertIrq s).irqPending = false := rfl
@[simp] theorem deassertIrq_nmiPending (s : State) : (deassertIrq s).nmiPending = s.nmiPending := rfl
@[simp] theorem deassertIrq_run (s : State) : (deassertIrq s).run = s.run := rfl
@[simp] theorem deassertIrq_mem (s : State) : (deassertIrq s).mem = s.mem := rfl
@[simp] theorem deassertIrq_io (s : State) : (deassertIrq s).io = s.io := rfl
@[simp] theorem deassertIrq_bus (s : State) : (deassertIrq s).bus = s.bus := rfl
@[simp] theorem deassertIrq_params (s : State) : (deassertIrq s).params = s.params := rfl

@[simp] theorem assertNmi_a (s : State) : (assertNmi s).a = s.a := rfl
@[simp] theorem assertNmi_x (s : State) : (assertNmi s).x = s.x := rfl
@[simp] theorem assertNmi_y (s : State) : (assertNmi s).y = s.y := rfl
@[simp] theorem assertNmi_sp (s : State) : (assertNmi s).sp = s.sp := rfl
@[simp] theorem assertNmi_pc (s : State) : (assertNmi s).pc = s.pc := rfl
@[simp] theorem assertNmi_p (s : State) : (assertNmi s).p = s.p := rfl
@[simp] theorem assertNmi_irqPending (s : State) : (assertNmi s).irqPending = s.irqPending := rfl
@[simp] theorem assertNmi_nmiPending (s : State) : (assertNmi s).nmiPending = true := rfl
@[simp] theorem assertNmi_run (s : State) : (assertNmi s).run = s.run := rfl
@[simp] theorem assertNmi_mem (s : State) : (assertNmi s).mem = s.mem := rfl
@[simp] theorem assertNmi_io (s : State) : (assertNmi s).io = s.io := rfl
@[simp] theorem assertNmi_bus (s : State) : (assertNmi s).bus = s.bus := rfl
@[simp] theorem assertNmi_params (s : State) : (assertNmi s).params = s.params := rfl

@[simp] theorem Flags.setZN_n (p : Flags) (v : Byte) : (p.setZN v).n = bit v 7 := rfl
@[simp] theorem Flags.setZN_v (p : Flags) (v : Byte) : (p.setZN v).v = p.v := rfl
@[simp] theorem Flags.setZN_d (p : Flags) (v : Byte) : (p.setZN v).d = p.d := rfl
@[simp] theorem Flags.setZN_i (p : Flags) (v : Byte) : (p.setZN v).i = p.i := rfl
@[simp] theorem Flags.setZN_z (p : Flags) (v : Byte) : (p.setZN v).z = (v == 0) := rfl
@[simp] theorem Flags.setZN_c (p : Flags) (v : Byte) : (p.setZN v).c = p.c := rfl

@[simp] theorem Flags.setI_n (p : Flags) : (p.setI).n = p.n := rfl
@[simp] theorem Flags.setI_v (p : Flags) : (p.setI).v = p.v := rfl
@[simp] theorem Flags.setI_d (p : Flags) : (p.setI).d = p.d := rfl
@[simp] theorem Flags.setI_i (p : Flags) : (p.setI).i = true := rfl
@[simp] theorem Flags.setI_z (p : Flags) : (p.setI).z = p.z := rfl
@[simp] theorem Flags.setI_c (p : Flags) : (p.setI).c = p.c := rfl

@[simp] theorem Flags.setArith_n (p : Flags) (r : AluResult) : (p.setArith r).n = r.n := rfl
@[simp] theorem Flags.setArith_v (p : Flags) (r : AluResult) : (p.setArith r).v = r.v := rfl
@[simp] theorem Flags.setArith_d (p : Flags) (r : AluResult) : (p.setArith r).d = p.d := rfl
@[simp] theorem Flags.setArith_i (p : Flags) (r : AluResult) : (p.setArith r).i = p.i := rfl
@[simp] theorem Flags.setArith_z (p : Flags) (r : AluResult) : (p.setArith r).z = r.z := rfl
@[simp] theorem Flags.setArith_c (p : Flags) (r : AluResult) : (p.setArith r).c = r.c := rfl

@[simp] theorem Flags.setShift_n (p : Flags) (r : Shifted) : (p.setShift r).n = bit r.value 7 := rfl
@[simp] theorem Flags.setShift_v (p : Flags) (r : Shifted) : (p.setShift r).v = p.v := rfl
@[simp] theorem Flags.setShift_d (p : Flags) (r : Shifted) : (p.setShift r).d = p.d := rfl
@[simp] theorem Flags.setShift_i (p : Flags) (r : Shifted) : (p.setShift r).i = p.i := rfl
@[simp] theorem Flags.setShift_z (p : Flags) (r : Shifted) : (p.setShift r).z = (r.value == 0) := rfl
@[simp] theorem Flags.setShift_c (p : Flags) (r : Shifted) : (p.setShift r).c = r.carry := rfl

@[simp] theorem Flags.setCompare_n (p : Flags) (g m : Byte) : (p.setCompare g m).n = bit (g - m) 7 := rfl
@[simp] theorem Flags.setCompare_v (p : Flags) (g m : Byte) : (p.setCompare g m).v = p.v := rfl
@[simp] theorem Flags.setCompare_d (p : Flags) (g m : Byte) : (p.setCompare g m).d = p.d := rfl
@[simp] theorem Flags.setCompare_i (p : Flags) (g m : Byte) : (p.setCompare g m).i = p.i := rfl
@[simp] theorem Flags.setCompare_z (p : Flags) (g m : Byte) : (p.setCompare g m).z = (g == m) := rfl
@[simp] theorem Flags.setCompare_c (p : Flags) (g m : Byte) : (p.setCompare g m).c = decide (g.toNat ≥ m.toNat) := rfl

@[simp] theorem Flags.setBit_n (p : Flags) (g m : Byte) : (p.setBit g m).n = bit m 7 := rfl
@[simp] theorem Flags.setBit_v (p : Flags) (g m : Byte) : (p.setBit g m).v = bit m 6 := rfl
@[simp] theorem Flags.setBit_d (p : Flags) (g m : Byte) : (p.setBit g m).d = p.d := rfl
@[simp] theorem Flags.setBit_i (p : Flags) (g m : Byte) : (p.setBit g m).i = p.i := rfl
@[simp] theorem Flags.setBit_z (p : Flags) (g m : Byte) : (p.setBit g m).z = ((g &&& m) == 0) := rfl
@[simp] theorem Flags.setBit_c (p : Flags) (g m : Byte) : (p.setBit g m).c = p.c := rfl

/-- A read changes nothing but the history of outside transactions. -/
theorem State.afterRead_eq (s : State) (addr : Word) : s.afterRead addr = s.withIo (s.afterRead addr).io := by
  unfold State.afterRead
  split <;> rfl

/-- A write changes nothing but memory and the history of outside transactions. -/
theorem State.poke_eq (s : State) (addr : Word) (v : Byte) :
    s.poke addr v = (s.withMem (s.poke addr v).mem).withIo (s.poke addr v).io := by
  unfold State.poke
  split <;> rfl

@[simp] theorem State.afterRead_a (s : State) (addr : Word) : (s.afterRead addr).a = s.a := by
  rw [State.afterRead_eq]
  rfl
@[simp] theorem State.afterRead_x (s : State) (addr : Word) : (s.afterRead addr).x = s.x := by
  rw [State.afterRead_eq]
  rfl
@[simp] theorem State.afterRead_y (s : State) (addr : Word) : (s.afterRead addr).y = s.y := by
  rw [State.afterRead_eq]
  rfl
@[simp] theorem State.afterRead_sp (s : State) (addr : Word) : (s.afterRead addr).sp = s.sp := by
  rw [State.afterRead_eq]
  rfl
@[simp] theorem State.afterRead_pc (s : State) (addr : Word) : (s.afterRead addr).pc = s.pc := by
  rw [State.afterRead_eq]
  rfl
@[simp] theorem State.afterRead_p (s : State) (addr : Word) : (s.afterRead addr).p = s.p := by
  rw [State.afterRead_eq]
  rfl
@[simp] theorem State.afterRead_irqPending (s : State) (addr : Word) : (s.afterRead addr).irqPending = s.irqPending := by
  rw [State.afterRead_eq]
  rfl
@[simp] theorem State.afterRead_nmiPending (s : State) (addr : Word) : (s.afterRead addr).nmiPending = s.nmiPending := by
  rw [State.afterRead_eq]
  rfl
@[simp] theorem State.afterRead_run (s : State) (addr : Word) : (s.afterRead addr).run = s.run := by
  rw [State.afterRead_eq]
  rfl
@[simp] theorem State.afterRead_mem (s : State) (addr : Word) : (s.afterRead addr).mem = s.mem := by
  rw [State.afterRead_eq]
  rfl
@[simp] theorem State.afterRead_bus (s : State) (addr : Word) : (s.afterRead addr).bus = s.bus := by
  rw [State.afterRead_eq]
  rfl
@[simp] theorem State.afterRead_params (s : State) (addr : Word) : (s.afterRead addr).params = s.params := by
  rw [State.afterRead_eq]
  rfl

@[simp] theorem State.poke_a (s : State) (addr : Word) (v : Byte) : (s.poke addr v).a = s.a := by
  rw [State.poke_eq]
  rfl
@[simp] theorem State.poke_x (s : State) (addr : Word) (v : Byte) : (s.poke addr v).x = s.x := by
  rw [State.poke_eq]
  rfl
@[simp] theorem State.poke_y (s : State) (addr : Word) (v : Byte) : (s.poke addr v).y = s.y := by
  rw [State.poke_eq]
  rfl
@[simp] theorem State.poke_sp (s : State) (addr : Word) (v : Byte) : (s.poke addr v).sp = s.sp := by
  rw [State.poke_eq]
  rfl
@[simp] theorem State.poke_pc (s : State) (addr : Word) (v : Byte) : (s.poke addr v).pc = s.pc := by
  rw [State.poke_eq]
  rfl
@[simp] theorem State.poke_p (s : State) (addr : Word) (v : Byte) : (s.poke addr v).p = s.p := by
  rw [State.poke_eq]
  rfl
@[simp] theorem State.poke_irqPending (s : State) (addr : Word) (v : Byte) : (s.poke addr v).irqPending = s.irqPending := by
  rw [State.poke_eq]
  rfl
@[simp] theorem State.poke_nmiPending (s : State) (addr : Word) (v : Byte) : (s.poke addr v).nmiPending = s.nmiPending := by
  rw [State.poke_eq]
  rfl
@[simp] theorem State.poke_run (s : State) (addr : Word) (v : Byte) : (s.poke addr v).run = s.run := by
  rw [State.poke_eq]
  rfl
@[simp] theorem State.poke_bus (s : State) (addr : Word) (v : Byte) : (s.poke addr v).bus = s.bus := by
  rw [State.poke_eq]
  rfl
@[simp] theorem State.poke_params (s : State) (addr : Word) (v : Byte) : (s.poke addr v).params = s.params := by
  rw [State.poke_eq]
  rfl

/-- Two states with the same fields are the same state. -/
theorem State.ext_fields {s t : State} (ha : s.a = t.a) (hx : s.x = t.x) (hy : s.y = t.y) (hsp : s.sp = t.sp) (hpc : s.pc = t.pc)
    (hp : s.p = t.p) (hi : s.irqPending = t.irqPending) (hn : s.nmiPending = t.nmiPending) (hr : s.run = t.run)
    (hm : s.mem = t.mem) (ho : s.io = t.io) (hb : s.bus = t.bus) (hq : s.params = t.params) : s = t := by
  cases s
  cases t
  simp_all

end Sys2Proof.Machine
end

