-- ==== Sys2Proof/Laws/Bus.lean ====
section
/-! SUPPORT. What each operation over the bus and the stack can do, said once: if it answers, the value and the state are these; and on
a total bus it answers. -/

namespace Sys2Proof.Machine

@[simp] theorem Access.bind_ok {α β : Type} (v : α) (s : State) (f : α → State → Access β) :
    (Access.ok v s).bind f = f v s := rfl

@[simp] theorem Access.bind_refused {α β : Type} (a : Word) (s : State) (f : α → State → Access β) :
    (Access.refused a s : Access α).bind f = .refused a s := rfl

/-- A sequence answers exactly when both parts do. -/
theorem Access.bind_eq_ok {α β : Type} {x : Access α} {f : α → State → Access β} {w : β} {t : State} :
    x.bind f = .ok w t ↔ ∃ v u, x = .ok v u ∧ f v u = .ok w t := by
  cases x <;> simp [Access.bind]

@[simp] theorem finish_ok (u : Unit) (s : State) : finish (.ok u s) = .next s := rfl

@[simp] theorem finish_refused (a : Word) (s : State) : finish (.refused a s) = .fault (.busFault a s) := rfl

/-- An instruction ends in a next state exactly when its transactions were all answered. -/
theorem finish_eq_next {x : Access Unit} {t : State} : finish x = .next t ↔ x = .ok () t := by
  cases x <;> simp [finish]

/-- An instruction never ends in a refusal. -/
theorem finish_ne_refused (x : Access Unit) (r : Refusal) : finish x ≠ .refused r := by
  cases x <;> simp [finish]

/-- The routing looks at the map alone. -/
theorem State.route_congr {s t : State} (h : t.bus = s.bus) (addr : Word) : t.route addr = s.route addr := by
  unfold State.route
  rw [h]

theorem State.refuses_congr {s t : State} (h : t.bus = s.bus) (addr : Word) : t.refuses addr = s.refuses addr := by
  unfold State.refuses
  rw [State.route_congr h]

/-- A total bus stays total as long as the map is the same. -/
theorem State.BusTotal.of_bus {s t : State} (hs : s.BusTotal) (h : t.bus = s.bus) : t.BusTotal := fun addr => by
  rw [State.refuses_congr h, hs addr]

/-- What a read answers looks at the map, the memory and the history alone. -/
theorem State.peek_congr {s t : State} (hb : t.bus = s.bus) (hm : t.mem = s.mem) (hi : t.io = s.io) (addr : Word) :
    t.peek addr = s.peek addr := by
  unfold State.peek
  rw [State.route_congr hb, hm, hi]

/-- The history after a read looks at the map and the history alone. -/
theorem State.afterRead_io_congr {s t : State} (hb : t.bus = s.bus) (hi : t.io = s.io) (addr : Word) :
    (t.afterRead addr).io = (s.afterRead addr).io := by
  unfold State.afterRead
  rw [State.route_congr hb]
  split <;> simp [hi]

/-- A read answers exactly where the bus does not refuse. -/
theorem busRead_eq_ok {s t : State} {addr : Word} {v : Byte} :
    busRead s addr = .ok v t ↔ s.refuses addr = false ∧ v = s.peek addr ∧ t = s.afterRead addr := by
  unfold busRead
  cases h : s.refuses addr <;> simp [eq_comm]

theorem busWrite_eq_ok {s t : State} {addr : Word} {v : Byte} {u : Unit} :
    busWrite s addr v = .ok u t ↔ s.refuses addr = false ∧ t = s.poke addr v := by
  unfold busWrite
  cases h : s.refuses addr <;> simp [eq_comm]

theorem busRead_total {s : State} (h : s.BusTotal) (addr : Word) :
    busRead s addr = .ok (s.peek addr) (s.afterRead addr) := by
  simp [busRead, h addr]

theorem busWrite_total {s : State} (h : s.BusTotal) (addr : Word) (v : Byte) :
    busWrite s addr v = .ok () (s.poke addr v) := by
  simp [busWrite, h addr]

theorem busRead_refused {s : State} {addr : Word} (h : s.refuses addr = true) : busRead s addr = .refused addr s := by
  simp [busRead, h]

theorem busWrite_refused {s : State} {addr : Word} (h : s.refuses addr = true) (v : Byte) :
    busWrite s addr v = .refused addr s := by
  simp [busWrite, h]

/-! Two reads. -/

theorem readWord_ok {s t : State} {a b : Word} {w : Word} (h : readWord s a b = .ok w t) :
    w = s.peekWord a b ∧ t = s.afterReadWord a b := by
  simp only [readWord, Access.bind_eq_ok, busRead_eq_ok] at h
  obtain ⟨l, u, ⟨-, rfl, rfl⟩, hi, u', ⟨-, rfl, rfl⟩, h⟩ := h
  cases h
  exact ⟨rfl, rfl⟩

theorem readWord_total {s : State} (h : s.BusTotal) (a b : Word) :
    readWord s a b = .ok (s.peekWord a b) (s.afterReadWord a b) := by
  have h' : (s.afterRead a).BusTotal := h.of_bus (by simp)
  simp [readWord, busRead_total h, busRead_total h', State.peekWord, State.afterReadWord]

/-- Two reads change nothing but the history of outside transactions. -/
theorem State.afterReadWord_eq (s : State) (a b : Word) :
    s.afterReadWord a b = s.withIo (s.afterReadWord a b).io := by
  unfold State.afterReadWord
  rw [State.afterRead_eq (s.afterRead a) b, State.afterRead_eq s a]
  rfl

/-- What two reads answer looks at the map, the memory and the history alone. -/
theorem State.peekWord_congr {s t : State} (hb : t.bus = s.bus) (hm : t.mem = s.mem) (hi : t.io = s.io) (a b : Word) :
    t.peekWord a b = s.peekWord a b := by
  unfold State.peekWord
  rw [State.peek_congr hb hm hi, State.peek_congr (s := s.afterRead a) (t := t.afterRead a) (by simp [hb]) (by simp [hm])
    (State.afterRead_io_congr hb hi a)]

theorem State.afterReadWord_io_congr {s t : State} (hb : t.bus = s.bus) (hi : t.io = s.io) (a b : Word) :
    (t.afterReadWord a b).io = (s.afterReadWord a b).io := by
  unfold State.afterReadWord
  exact State.afterRead_io_congr (by simp [hb]) (State.afterRead_io_congr hb hi a) b

/-! The stack. -/

theorem push_ok {s t : State} {v : Byte} {u : Unit} (h : push s v = .ok u t) : t = s.pushed v := by
  simp only [push, Access.bind_eq_ok, busWrite_eq_ok] at h
  obtain ⟨-, u', ⟨-, rfl⟩, h⟩ := h
  cases h
  rw [State.pushed, State.poke_sp]

theorem push_total {s : State} (h : s.BusTotal) (v : Byte) : push s v = .ok () (s.pushed v) := by
  simp [push, busWrite_total h, State.pushed]

/-- A push changes SP, memory and the history alone. -/
theorem State.pushed_eq (s : State) (v : Byte) :
    s.pushed v = ((s.withSp (s.sp - 1)).withMem (s.pushed v).mem).withIo (s.pushed v).io := by
  unfold State.pushed
  rw [State.poke_eq]
  rfl

theorem pull_eq (s : State) :
    pull s = if s.refuses (stackAddr (s.sp + 1)) then .refused (stackAddr (s.sp + 1)) (s.withSp (s.sp + 1))
      else .ok s.top s.pulled := by
  have h1 : (s.withSp (s.sp + 1)).refuses (stackAddr (s.sp + 1)) = s.refuses (stackAddr (s.sp + 1)) :=
    State.refuses_congr rfl _
  have h2 : (s.withSp (s.sp + 1)).peek (stackAddr (s.sp + 1)) = s.top := State.peek_congr rfl rfl rfl _
  have h3 : (s.withSp (s.sp + 1)).afterRead (stackAddr (s.sp + 1)) = s.pulled := by
    rw [State.afterRead_eq, State.pulled, State.afterRead_eq s,
      State.afterRead_io_congr (t := s.withSp (s.sp + 1)) (s := s) rfl rfl]
    rfl
  rw [pull, busRead, h1, h2, h3]

theorem pull_ok {s t : State} {v : Byte} (h : pull s = .ok v t) : v = s.top ∧ t = s.pulled := by
  rw [pull_eq] at h
  split at h
  · cases h
  · cases h
    exact ⟨rfl, rfl⟩

theorem pull_total {s : State} (h : s.BusTotal) : pull s = .ok s.top s.pulled := by
  rw [pull_eq, h (stackAddr (s.sp + 1))]
  rfl

/-- A pull changes SP and the history alone. -/
theorem State.pulled_eq (s : State) : s.pulled = (s.withSp (s.sp + 1)).withIo s.pulled.io := by
  unfold State.pulled
  rw [State.afterRead_eq]
  rfl

@[simp] theorem State.pushed_bus (s : State) (v : Byte) : (s.pushed v).bus = s.bus := by simp [State.pushed]
@[simp] theorem State.pulled_bus (s : State) : s.pulled.bus = s.bus := by simp [State.pulled]
@[simp] theorem State.afterReadWord_bus (s : State) (a b : Word) : (s.afterReadWord a b).bus = s.bus := by
  simp [State.afterReadWord]

theorem pushWord_ok {s t : State} {w : Word} {u : Unit} (h : pushWord s w = .ok u t) :
    t = (s.pushed (hi8 w)).pushed (lo8 w) := by
  obtain ⟨_, t1, h1, h2⟩ := Access.bind_eq_ok.1 h
  rw [push_ok h1] at h2
  exact push_ok h2

theorem pushWord_total {s : State} (h : s.BusTotal) (w : Word) :
    pushWord s w = .ok () ((s.pushed (hi8 w)).pushed (lo8 w)) := by
  simp [pushWord, push_total h, push_total (h.of_bus (State.pushed_bus s (hi8 w)))]

theorem pullWord_ok {s t : State} {w : Word} (h : pullWord s = .ok w t) :
    w = word s.pulled.top s.top ∧ t = s.pulled.pulled := by
  simp only [pullWord, Access.bind_eq_ok] at h
  obtain ⟨l, u, h1, hi, u', h2, h3⟩ := h
  obtain ⟨rfl, rfl⟩ := pull_ok h1
  obtain ⟨rfl, rfl⟩ := pull_ok h2
  cases h3
  exact ⟨rfl, rfl⟩

theorem pullWord_total {s : State} (h : s.BusTotal) :
    pullWord s = .ok (word s.pulled.top s.top) s.pulled.pulled := by
  simp [pullWord, pull_total h, pull_total (h.of_bus (State.pulled_bus s))]

/-! Traps. -/

/-- The state a trap leaves when the bus answers (R222): three pushes, I set, PC from the vector. -/
def State.trapped (s : State) (brk : Bool) (vec : Word) : State :=
  let t := ((s.pushed (hi8 s.pc)).pushed (lo8 s.pc)).pushed (s.p.pbyte brk)
  let u := t.withP s.p.setI
  (u.afterReadWord vec (vec + 1)).withPc (u.peekWord vec (vec + 1))

/-- The state a return from a trap leaves when the bus answers (R175). -/
def State.returned (s : State) : State :=
  let t := s.pulled.withP (Flags.ofByte s.top)
  t.pulled.pulled.withPc (word t.pulled.top t.top)

theorem loadVector_ok {s t : State} {vec : Word} {u : Unit} (h : loadVector s vec = .ok u t) :
    t = (s.afterReadWord vec (vec + 1)).withPc (s.peekWord vec (vec + 1)) := by
  simp only [loadVector, Access.bind_eq_ok] at h
  obtain ⟨w, u', h1, h2⟩ := h
  obtain ⟨rfl, rfl⟩ := readWord_ok h1
  cases h2
  rfl

theorem loadVector_total {s : State} (h : s.BusTotal) (vec : Word) :
    loadVector s vec = .ok () ((s.afterReadWord vec (vec + 1)).withPc (s.peekWord vec (vec + 1))) := by
  simp [loadVector, readWord_total h]

@[simp] theorem State.pushed_p (s : State) (v : Byte) : (s.pushed v).p = s.p := by simp [State.pushed]
@[simp] theorem State.pushed_pc (s : State) (v : Byte) : (s.pushed v).pc = s.pc := by simp [State.pushed]

theorem enterTrap_ok {s t : State} {brk : Bool} {vec : Word} {u : Unit} (h : enterTrap s brk vec = .ok u t) :
    t = s.trapped brk vec := by
  obtain ⟨_, t1, h1, h⟩ := Access.bind_eq_ok.1 h
  obtain ⟨_, t2, h2, h3⟩ := Access.bind_eq_ok.1 h
  rw [loadVector_ok h3, push_ok h2, pushWord_ok h1]
  simp only [State.pushed_p, State.trapped]

theorem enterTrap_total {s : State} (h : s.BusTotal) (brk : Bool) (vec : Word) :
    enterTrap s brk vec = .ok () (s.trapped brk vec) := by
  have h1 : ((s.pushed (hi8 s.pc)).pushed (lo8 s.pc)).BusTotal := h.of_bus (by simp)
  have h2 : ∀ v p, ((((s.pushed (hi8 s.pc)).pushed (lo8 s.pc)).pushed v).withP p).BusTotal :=
    fun v p => h.of_bus (by simp)
  rw [enterTrap, pushWord_total h, Access.bind_ok, push_total h1, Access.bind_ok, loadVector_total (h2 _ _)]
  simp only [State.pushed_p, State.trapped]

theorem returnFromTrap_ok {s t : State} {u : Unit} (h : returnFromTrap s = .ok u t) : t = s.returned := by
  simp only [returnFromTrap, Access.bind_eq_ok] at h
  obtain ⟨v, t1, h1, w, t2, h2, h3⟩ := h
  obtain ⟨rfl, rfl⟩ := pull_ok h1
  obtain ⟨rfl, rfl⟩ := pullWord_ok h2
  cases h3
  rfl

theorem returnFromTrap_total {s : State} (h : s.BusTotal) : returnFromTrap s = .ok () s.returned := by
  have h1 : (s.pulled.withP (Flags.ofByte s.top)).BusTotal := h.of_bus (by simp)
  simp [returnFromTrap, pull_total h, pullWord_total h1, State.returned]

end Sys2Proof.Machine
end

