-- ==== Sys2Proof/Laws/Operands.lean ====
section
/-! SUPPORT. What the resolver and each instruction shape can do, said once: if it answers next t, then t is this; and on a total bus
it answers. -/

namespace Sys2Proof.Machine

/-- The effective address and the page-cross bit of an operand when the bus answers (R114). -/
def State.resolved (s : State) (m : MemOperand) : Resolved :=
  match m with
  | .zp d => { ea := zeroPage d, cross := false }
  | .zpx d => { ea := zeroPage (d + s.x), cross := false }
  | .zpy d => { ea := zeroPage (d + s.y), cross := false }
  | .abs w => { ea := w, cross := false }
  | .absx w => indexed w s.x
  | .absy w => indexed w s.y
  | .ind w => { ea := s.peekWord w (indirectHigh s.params.jmpIndWrap w), cross := false }
  | .indx d => { ea := s.peekWord (zeroPage (d + s.x)) (zeroPage (d + s.x + 1)), cross := false }
  | .indy d => indexed (s.peekWord (zeroPage d) (zeroPage (d + 1))) s.y
  | .rel d => { ea := s.pc + sext16 d, cross := crosses s.pc (s.pc + sext16 d) }

/-- The state after the pointer reads of an operand when the bus answers. -/
def State.afterResolve (s : State) (m : MemOperand) : State :=
  match m with
  | .zp _ => s
  | .zpx _ => s
  | .zpy _ => s
  | .abs _ => s
  | .absx _ => s
  | .absy _ => s
  | .ind w => s.afterReadWord w (indirectHigh s.params.jmpIndWrap w)
  | .indx d => s.afterReadWord (zeroPage (d + s.x)) (zeroPage (d + s.x + 1))
  | .indy d => s.afterReadWord (zeroPage d) (zeroPage (d + 1))
  | .rel _ => s

@[simp] theorem State.afterReadWord_y (s : State) (a b : Word) : (s.afterReadWord a b).y = s.y := by
  simp [State.afterReadWord]

theorem resolve_ok {m : MemOperand} {s t : State} {r : Resolved} (h : resolve m s = .ok r t) :
    r = s.resolved m ∧ t = s.afterResolve m := by
  cases m with
  | ind w =>
    obtain ⟨w', u, h1, h2⟩ := Access.bind_eq_ok.1 h
    obtain ⟨rfl, rfl⟩ := readWord_ok h1
    cases h2
    exact ⟨rfl, rfl⟩
  | indx d =>
    obtain ⟨w', u, h1, h2⟩ := Access.bind_eq_ok.1 h
    obtain ⟨rfl, rfl⟩ := readWord_ok h1
    cases h2
    exact ⟨rfl, rfl⟩
  | indy d =>
    obtain ⟨w', u, h1, h2⟩ := Access.bind_eq_ok.1 h
    obtain ⟨rfl, rfl⟩ := readWord_ok h1
    cases h2
    simp [State.resolved, State.afterResolve]
  | _ =>
    cases h
    exact ⟨rfl, rfl⟩

theorem resolve_total {s : State} (h : s.BusTotal) (m : MemOperand) :
    resolve m s = .ok (s.resolved m) (s.afterResolve m) := by
  cases m <;> simp [resolve, readWord_total h, State.resolved, State.afterResolve]

/-- Resolving an operand changes nothing but the history of outside transactions. -/
theorem State.afterResolve_eq (s : State) (m : MemOperand) : s.afterResolve m = s.withIo (s.afterResolve m).io := by
  cases m <;> first | rfl | exact State.afterReadWord_eq _ _ _

@[simp] theorem State.afterResolve_bus (s : State) (m : MemOperand) : (s.afterResolve m).bus = s.bus := by
  rw [State.afterResolve_eq]
  rfl

/-- The effective address of an operand of the instruction at PC, when the bus answers. -/
def State.ea (s : State) (m : MemOperand) : Word := ((s.advance m.mode.length).resolved m).ea

/-- The state in which the data of an operand of the instruction at PC is accessed, when the bus answers: PC is past the instruction
and the pointer bytes have been read. -/
def State.atOperand (s : State) (m : MemOperand) : State := (s.advance m.mode.length).afterResolve m

/-- That state differs from the one before the instruction in PC and the history alone. -/
theorem State.atOperand_eq (s : State) (m : MemOperand) :
    s.atOperand m = (s.withPc (s.pc + BitVec.ofNat 16 m.mode.length)).withIo (s.atOperand m).io := by
  unfold State.atOperand
  rw [State.afterResolve_eq]
  rfl

theorem advance_total {s : State} (h : s.BusTotal) (n : Nat) : (s.advance n).BusTotal := h.of_bus rfl

theorem State.BusTotal.atOperand {s : State} (h : s.BusTotal) (m : MemOperand) : (s.atOperand m).BusTotal :=
  h.of_bus (by simp [State.atOperand])

theorem State.BusTotal.afterRead {s : State} (h : s.BusTotal) (addr : Word) : (s.afterRead addr).BusTotal :=
  h.of_bus (by simp)

/-! The instruction shapes. -/

theorem readImm_eq (use : Byte → State → State) (v : Byte) (s : State) :
    readImm use v s = .next (use v (s.advance 2)) := rfl

theorem implied_eq (change : State → State) (s : State) : implied change s = .next (change (s.advance 1)) := rfl

theorem readMem_next {use : Byte → State → State} {m : MemOperand} {s t : State} (h : readMem use m s = .next t) :
    t = use ((s.atOperand m).peek (s.ea m)) ((s.atOperand m).afterRead (s.ea m)) := by
  obtain ⟨r, u, h1, h⟩ := Access.bind_eq_ok.1 (finish_eq_next.1 h)
  obtain ⟨v, w, h2, h3⟩ := Access.bind_eq_ok.1 h
  obtain ⟨rfl, rfl⟩ := resolve_ok h1
  obtain ⟨-, rfl, rfl⟩ := busRead_eq_ok.1 h2
  cases h3
  rfl

theorem readMem_total {s : State} (h : s.BusTotal) (use : Byte → State → State) (m : MemOperand) :
    readMem use m s = .next (use ((s.atOperand m).peek (s.ea m)) ((s.atOperand m).afterRead (s.ea m))) := by
  have h2 := h.atOperand m
  unfold State.atOperand at h2
  rw [readMem, resolve_total (advance_total h _), Access.bind_ok, busRead_total h2]
  rfl

theorem storeMem_next {value : State → Byte} {m : MemOperand} {s t : State} (h : storeMem value m s = .next t) :
    t = (s.atOperand m).poke (s.ea m) (value (s.atOperand m)) := by
  obtain ⟨r, u, h1, h2⟩ := Access.bind_eq_ok.1 (finish_eq_next.1 h)
  obtain ⟨rfl, rfl⟩ := resolve_ok h1
  exact (busWrite_eq_ok.1 h2).2

theorem storeMem_total {s : State} (h : s.BusTotal) (value : State → Byte) (m : MemOperand) :
    storeMem value m s = .next ((s.atOperand m).poke (s.ea m) (value (s.atOperand m))) := by
  have h2 := h.atOperand m
  unfold State.atOperand at h2
  rw [storeMem, resolve_total (advance_total h _), Access.bind_ok, busWrite_total h2]
  rfl

theorem shiftAcc_eq (f : Byte → Bool → Shifted) (s : State) :
    shiftAcc f s = .next (((s.advance 1).withA (f s.a s.p.c).value).withP (s.p.setShift (f s.a s.p.c))) := rfl

theorem shiftMem_next {f : Byte → Bool → Shifted} {m : MemOperand} {s t : State} (h : shiftMem f m s = .next t) :
    t = (((s.atOperand m).afterRead (s.ea m)).withP (s.p.setShift (f ((s.atOperand m).peek (s.ea m)) s.p.c))).poke (s.ea m)
      (f ((s.atOperand m).peek (s.ea m)) s.p.c).value := by
  obtain ⟨r, u, h1, h⟩ := Access.bind_eq_ok.1 (finish_eq_next.1 h)
  obtain ⟨v, w, h2, h3⟩ := Access.bind_eq_ok.1 h
  obtain ⟨rfl, rfl⟩ := resolve_ok h1
  obtain ⟨-, rfl, rfl⟩ := busRead_eq_ok.1 h2
  have hp : ((s.advance m.mode.length).afterResolve m).p = s.p := by
    rw [State.afterResolve_eq]
    rfl
  rw [(busWrite_eq_ok.1 h3).2, State.afterRead_p, hp]
  rfl

theorem shiftMem_total {s : State} (h : s.BusTotal) (f : Byte → Bool → Shifted) (m : MemOperand) :
    shiftMem f m s = .next ((((s.atOperand m).afterRead (s.ea m)).withP
      (s.p.setShift (f ((s.atOperand m).peek (s.ea m)) s.p.c))).poke (s.ea m)
      (f ((s.atOperand m).peek (s.ea m)) s.p.c).value) := by
  have hp : (s.atOperand m).p = s.p := by
    rw [State.atOperand_eq]
    rfl
  have h2 := h.atOperand m
  have h3 : ∀ p, (((s.atOperand m).afterRead (s.ea m)).withP p).BusTotal := fun p => (h2.afterRead (s.ea m)).of_bus rfl
  simp only [State.atOperand, State.ea] at h2 h3 hp
  rw [shiftMem, resolve_total (advance_total h _), Access.bind_ok, busRead_total h2, Access.bind_ok, busWrite_total (h3 _),
    State.afterRead_p, hp]
  rfl

theorem bumpMem_next {f : Byte → Byte} {m : MemOperand} {s t : State} (h : bumpMem f m s = .next t) :
    t = (((s.atOperand m).afterRead (s.ea m)).poke (s.ea m) (f ((s.atOperand m).peek (s.ea m)))).withP
      (s.p.setZN (f ((s.atOperand m).peek (s.ea m)))) := by
  obtain ⟨r, u, h1, h⟩ := Access.bind_eq_ok.1 (finish_eq_next.1 h)
  obtain ⟨v, w, h2, h⟩ := Access.bind_eq_ok.1 h
  obtain ⟨_, w', h3, h4⟩ := Access.bind_eq_ok.1 h
  obtain ⟨rfl, rfl⟩ := resolve_ok h1
  obtain ⟨-, rfl, rfl⟩ := busRead_eq_ok.1 h2
  obtain ⟨-, rfl⟩ := busWrite_eq_ok.1 h3
  cases h4
  have hp : ((s.advance m.mode.length).afterResolve m).p = s.p := by
    rw [State.afterResolve_eq]
    rfl
  rw [State.poke_p, State.afterRead_p, hp]
  rfl

theorem bumpMem_total {s : State} (h : s.BusTotal) (f : Byte → Byte) (m : MemOperand) :
    bumpMem f m s = .next ((((s.atOperand m).afterRead (s.ea m)).poke (s.ea m) (f ((s.atOperand m).peek (s.ea m)))).withP
      (s.p.setZN (f ((s.atOperand m).peek (s.ea m))))) := by
  have hp : (s.atOperand m).p = s.p := by
    rw [State.atOperand_eq]
    rfl
  have h2 := h.atOperand m
  have h3 := h2.afterRead (s.ea m)
  simp only [State.atOperand, State.ea] at h2 h3 hp
  rw [bumpMem, resolve_total (advance_total h _), Access.bind_ok, busRead_total h2, Access.bind_ok, busWrite_total h3,
    Access.bind_ok, State.poke_p, State.afterRead_p, hp]
  rfl

theorem branchIf_eq (cond : Bool) (d : Byte) (s : State) :
    branchIf cond d s = .next (if cond then (s.advance 2).withPc (s.pc + 2 + sext16 d) else s.advance 2) := rfl

theorem jumpTo_next {m : MemOperand} {s t : State} (h : jumpTo m s = .next t) : t = (s.atOperand m).withPc (s.ea m) := by
  obtain ⟨r, u, h1, h2⟩ := Access.bind_eq_ok.1 (finish_eq_next.1 h)
  obtain ⟨rfl, rfl⟩ := resolve_ok h1
  cases h2
  rfl

theorem jumpTo_total {s : State} (h : s.BusTotal) (m : MemOperand) :
    jumpTo m s = .next ((s.atOperand m).withPc (s.ea m)) := by
  rw [jumpTo, resolve_total (advance_total h _)]
  rfl

end Sys2Proof.Machine
end

