-- ==== Sys2Proof/Laws/Control.lean ====
section
/-! SUPPORT. What JSR, RTS, RTI, BRK and the stack instructions can do, said once each: if the instruction answers next t, then t is
this; and on a total bus it answers. -/

namespace Sys2Proof.Machine

theorem execJsr_next {w : Word} {s t : State} (h : execJsr w s = .next t) :
    t = (((s.advance 3).pushed (hi8 (s.pc + 3 - 1))).pushed (lo8 (s.pc + 3 - 1))).withPc w := by
  obtain ⟨r, u, h1, h2⟩ := Access.bind_eq_ok.1 (finish_eq_next.1 h)
  obtain ⟨_, v, h3, h4⟩ := Access.bind_eq_ok.1 h2
  cases h1
  cases h4
  rw [pushWord_ok h3]
  rfl

theorem execJsr_total {s : State} (h : s.BusTotal) (w : Word) :
    execJsr w s = .next ((((s.advance 3).pushed (hi8 (s.pc + 3 - 1))).pushed (lo8 (s.pc + 3 - 1))).withPc w) := by
  rw [execJsr, resolve_total (advance_total h 3), Access.bind_ok, State.afterResolve, pushWord_total (advance_total h 3)]
  rfl

theorem execRts_next {s t : State} (h : execRts s = .next t) :
    t = (s.advance 1).pulled.pulled.withPc (word (s.advance 1).pulled.top (s.advance 1).top + 1) := by
  obtain ⟨r, u, h1, h2⟩ := Access.bind_eq_ok.1 (finish_eq_next.1 h)
  obtain ⟨rfl, rfl⟩ := pullWord_ok h1
  cases h2
  rfl

theorem execRts_total {s : State} (h : s.BusTotal) :
    execRts s = .next ((s.advance 1).pulled.pulled.withPc (word (s.advance 1).pulled.top (s.advance 1).top + 1)) := by
  rw [execRts, pullWord_total (advance_total h 1)]
  rfl

theorem execRti_next {s t : State} (h : execRti s = .next t) : t = (s.advance 1).returned :=
  returnFromTrap_ok (finish_eq_next.1 h)

theorem execRti_total {s : State} (h : s.BusTotal) : execRti s = .next (s.advance 1).returned := by
  rw [execRti, returnFromTrap_total (advance_total h 1)]
  rfl

theorem execBrk_next {s t : State} (h : execBrk s = .next t) :
    t = ((s.advance 1).advance s.params.brkPad.val).trapped true vecIrq :=
  enterTrap_ok (finish_eq_next.1 h)

theorem execBrk_total {s : State} (h : s.BusTotal) :
    execBrk s = .next (((s.advance 1).advance s.params.brkPad.val).trapped true vecIrq) := by
  rw [execBrk, enterTrap_total (advance_total (advance_total h 1) _)]
  rfl

theorem execPha_next {s t : State} (h : execPha s = .next t) : t = (s.advance 1).pushed s.a := push_ok (finish_eq_next.1 h)

theorem execPha_total {s : State} (h : s.BusTotal) : execPha s = .next ((s.advance 1).pushed s.a) := by
  rw [execPha, push_total (advance_total h 1)]
  rfl

theorem execPhp_next {s t : State} (h : execPhp s = .next t) : t = (s.advance 1).pushed (s.p.pbyte true) :=
  push_ok (finish_eq_next.1 h)

theorem execPhp_total {s : State} (h : s.BusTotal) : execPhp s = .next ((s.advance 1).pushed (s.p.pbyte true)) := by
  rw [execPhp, push_total (advance_total h 1)]
  rfl

theorem execPla_next {s t : State} (h : execPla s = .next t) : t = loadA (s.advance 1).top (s.advance 1).pulled := by
  obtain ⟨r, u, h1, h2⟩ := Access.bind_eq_ok.1 (finish_eq_next.1 h)
  obtain ⟨rfl, rfl⟩ := pull_ok h1
  cases h2
  rfl

theorem execPla_total {s : State} (h : s.BusTotal) : execPla s = .next (loadA (s.advance 1).top (s.advance 1).pulled) := by
  rw [execPla, pull_total (advance_total h 1)]
  rfl

theorem execPlp_next {s t : State} (h : execPlp s = .next t) :
    t = (s.advance 1).pulled.withP (Flags.ofByte (s.advance 1).top) := by
  obtain ⟨r, u, h1, h2⟩ := Access.bind_eq_ok.1 (finish_eq_next.1 h)
  obtain ⟨rfl, rfl⟩ := pull_ok h1
  cases h2
  rfl

theorem execPlp_total {s : State} (h : s.BusTotal) :
    execPlp s = .next ((s.advance 1).pulled.withP (Flags.ofByte (s.advance 1).top)) := by
  rw [execPlp, pull_total (advance_total h 1)]
  rfl

end Sys2Proof.Machine
end

