-- ==== Sys2Proof/Laws/Relations.lean ====
section
/-! SUPPORT. One induction for everything an instruction and a service keep: a relation that holds across each named update and each bus
transaction holds across `exec` and across a service. -/

namespace Sys2Proof.Machine

/-- A relation between states that every named update an instruction makes and every bus transaction keeps. -/
structure InstrRelation (Q : State → State → Prop) : Prop where
  refl : ∀ s, Q s s
  trans : ∀ {s t u}, Q s t → Q t u → Q s u
  withA : ∀ s v, Q s (s.withA v)
  withX : ∀ s v, Q s (s.withX v)
  withY : ∀ s v, Q s (s.withY v)
  withSp : ∀ s v, Q s (s.withSp v)
  withPc : ∀ s v, Q s (s.withPc v)
  withP : ∀ s v, Q s (s.withP v)
  afterRead : ∀ s addr, Q s (s.afterRead addr)
  poke : ∀ s addr v, Q s (s.poke addr v)

namespace InstrRelation

variable {Q : State → State → Prop} (hQ : InstrRelation Q)

include hQ

theorem advance (s : State) (n : Nat) : Q s (s.advance n) := hQ.withPc _ _

theorem afterReadWord (s : State) (a b : Word) : Q s (s.afterReadWord a b) :=
  hQ.trans (hQ.afterRead _ _) (hQ.afterRead _ _)

theorem afterResolve (s : State) (m : MemOperand) : Q s (s.afterResolve m) := by
  cases m <;> first | exact hQ.refl _ | exact hQ.afterReadWord _ _ _

theorem atOperand (s : State) (m : MemOperand) : Q s (s.atOperand m) :=
  hQ.trans (hQ.advance _ _) (hQ.afterResolve _ _)

theorem pushed (s : State) (v : Byte) : Q s (s.pushed v) := hQ.trans (hQ.poke _ _ _) (hQ.withSp _ _)

theorem pulled (s : State) : Q s s.pulled := hQ.trans (hQ.afterRead _ _) (hQ.withSp _ _)

theorem trapped (s : State) (brk : Bool) (vec : Word) : Q s (s.trapped brk vec) :=
  hQ.trans (hQ.pushed _ _) <| hQ.trans (hQ.pushed _ _) <| hQ.trans (hQ.pushed _ _) <| hQ.trans (hQ.withP _ _) <|
    hQ.trans (hQ.afterReadWord _ _ _) (hQ.withPc _ _)

theorem returned (s : State) : Q s s.returned :=
  hQ.trans (hQ.pulled _) <| hQ.trans (hQ.withP _ _) <| hQ.trans (hQ.pulled _) <| hQ.trans (hQ.pulled _) (hQ.withPc _ _)

theorem loadA (v : Byte) (s : State) : Q s (loadA v s) := hQ.trans (hQ.withA _ _) (hQ.withP _ _)

theorem loadX (v : Byte) (s : State) : Q s (loadX v s) := hQ.trans (hQ.withX _ _) (hQ.withP _ _)

theorem loadY (v : Byte) (s : State) : Q s (loadY v s) := hQ.trans (hQ.withY _ _) (hQ.withP _ _)

theorem setArith (r : AluResult) (s : State) : Q s (setArith r s) := hQ.trans (hQ.withA _ _) (hQ.withP _ _)

theorem adcA (m : Byte) (s : State) : Q s (adcA m s) := hQ.setArith _ _

theorem sbcA (m : Byte) (s : State) : Q s (sbcA m s) := hQ.setArith _ _

theorem andA (m : Byte) (s : State) : Q s (andA m s) := hQ.loadA _ _

theorem oraA (m : Byte) (s : State) : Q s (oraA m s) := hQ.loadA _ _

theorem eorA (m : Byte) (s : State) : Q s (eorA m s) := hQ.loadA _ _

theorem bitA (m : Byte) (s : State) : Q s (bitA m s) := hQ.withP _ _

theorem compareWith (reg : State → Byte) (m : Byte) (s : State) : Q s (compareWith reg m s) := hQ.withP _ _

theorem readImm {use : Byte → State → State} (hu : ∀ v s, Q s (use v s)) {v : Byte} {s t : State}
    (h : readImm use v s = .next t) : Q s t := by
  rw [readImm_eq] at h
  cases h
  exact hQ.trans (hQ.advance _ _) (hu _ _)

theorem readMem {use : Byte → State → State} (hu : ∀ v s, Q s (use v s)) {m : MemOperand} {s t : State}
    (h : readMem use m s = .next t) : Q s t := by
  rw [readMem_next h]
  exact hQ.trans (hQ.atOperand _ _) <| hQ.trans (hQ.afterRead _ _) (hu _ _)

theorem storeMem {value : State → Byte} {m : MemOperand} {s t : State} (h : storeMem value m s = .next t) : Q s t := by
  rw [storeMem_next h]
  exact hQ.trans (hQ.atOperand _ _) (hQ.poke _ _ _)

theorem shiftAcc {f : Byte → Bool → Shifted} {s t : State} (h : shiftAcc f s = .next t) : Q s t := by
  rw [shiftAcc_eq] at h
  cases h
  exact hQ.trans (hQ.advance _ _) <| hQ.trans (hQ.withA _ _) (hQ.withP _ _)

theorem shiftMem {f : Byte → Bool → Shifted} {m : MemOperand} {s t : State} (h : shiftMem f m s = .next t) : Q s t := by
  rw [shiftMem_next h]
  exact hQ.trans (hQ.atOperand _ _) <| hQ.trans (hQ.afterRead _ _) <| hQ.trans (hQ.withP _ _) (hQ.poke _ _ _)

theorem bumpMem {f : Byte → Byte} {m : MemOperand} {s t : State} (h : bumpMem f m s = .next t) : Q s t := by
  rw [bumpMem_next h]
  exact hQ.trans (hQ.atOperand _ _) <| hQ.trans (hQ.afterRead _ _) <| hQ.trans (hQ.poke _ _ _) (hQ.withP _ _)

theorem implied {change : State → State} (hc : ∀ s, Q s (change s)) {s t : State} (h : implied change s = .next t) : Q s t := by
  rw [implied_eq] at h
  cases h
  exact hQ.trans (hQ.advance _ _) (hc _)

theorem branchIf {cond : Bool} {d : Byte} {s t : State} (h : branchIf cond d s = .next t) : Q s t := by
  rw [branchIf_eq] at h
  cases cond <;> cases h
  · exact hQ.advance _ _
  · exact hQ.trans (hQ.advance _ _) (hQ.withPc _ _)

theorem jumpTo {m : MemOperand} {s t : State} (h : jumpTo m s = .next t) : Q s t := by
  rw [jumpTo_next h]
  exact hQ.trans (hQ.atOperand _ _) (hQ.withPc _ _)

theorem jsr {w : Word} {s t : State} (h : execJsr w s = .next t) : Q s t := by
  rw [execJsr_next h]
  exact hQ.trans (hQ.advance _ _) <| hQ.trans (hQ.pushed _ _) <| hQ.trans (hQ.pushed _ _) (hQ.withPc _ _)

theorem rts {s t : State} (h : execRts s = .next t) : Q s t := by
  rw [execRts_next h]
  exact hQ.trans (hQ.advance _ _) <| hQ.trans (hQ.pulled _) <| hQ.trans (hQ.pulled _) (hQ.withPc _ _)

theorem rti {s t : State} (h : execRti s = .next t) : Q s t := by
  rw [execRti_next h]
  exact hQ.trans (hQ.advance _ _) (hQ.returned _)

theorem brk {s t : State} (h : execBrk s = .next t) : Q s t := by
  rw [execBrk_next h]
  exact hQ.trans (hQ.advance _ _) <| hQ.trans (hQ.advance _ _) (hQ.trapped _ _ _)

theorem pha {s t : State} (h : execPha s = .next t) : Q s t := by
  rw [execPha_next h]
  exact hQ.trans (hQ.advance _ _) (hQ.pushed _ _)

theorem php {s t : State} (h : execPhp s = .next t) : Q s t := by
  rw [execPhp_next h]
  exact hQ.trans (hQ.advance _ _) (hQ.pushed _ _)

theorem pla {s t : State} (h : execPla s = .next t) : Q s t := by
  rw [execPla_next h]
  exact hQ.trans (hQ.advance _ _) <| hQ.trans (hQ.pulled _) (hQ.loadA _ _)

theorem plp {s t : State} (h : execPlp s = .next t) : Q s t := by
  rw [execPlp_next h]
  exact hQ.trans (hQ.advance _ _) <| hQ.trans (hQ.pulled _) (hQ.withP _ _)

/-- What an instruction does keeps the relation. -/
theorem exec {i : Instr} {s t : State} (h : exec i s = .next t) : Q s t := by
  cases i with
  | adcIndx d => exact hQ.readMem hQ.adcA h
  | adcZp d => exact hQ.readMem hQ.adcA h
  | adcImm v => exact hQ.readImm hQ.adcA h
  | adcAbs w => exact hQ.readMem hQ.adcA h
  | adcIndy d => exact hQ.readMem hQ.adcA h
  | adcZpx d => exact hQ.readMem hQ.adcA h
  | adcAbsy w => exact hQ.readMem hQ.adcA h
  | adcAbsx w => exact hQ.readMem hQ.adcA h
  | andIndx d => exact hQ.readMem hQ.andA h
  | andZp d => exact hQ.readMem hQ.andA h
  | andImm v => exact hQ.readImm hQ.andA h
  | andAbs w => exact hQ.readMem hQ.andA h
  | andIndy d => exact hQ.readMem hQ.andA h
  | andZpx d => exact hQ.readMem hQ.andA h
  | andAbsy w => exact hQ.readMem hQ.andA h
  | andAbsx w => exact hQ.readMem hQ.andA h
  | aslZp d => exact hQ.shiftMem h
  | aslAcc => exact hQ.shiftAcc h
  | aslAbs w => exact hQ.shiftMem h
  | aslZpx d => exact hQ.shiftMem h
  | aslAbsx w => exact hQ.shiftMem h
  | bcc d => exact hQ.branchIf h
  | bcs d => exact hQ.branchIf h
  | beq d => exact hQ.branchIf h
  | bitZp d => exact hQ.readMem hQ.bitA h
  | bitAbs w => exact hQ.readMem hQ.bitA h
  | bmi d => exact hQ.branchIf h
  | bne d => exact hQ.branchIf h
  | bpl d => exact hQ.branchIf h
  | brk => exact hQ.brk h
  | bvc d => exact hQ.branchIf h
  | bvs d => exact hQ.branchIf h
  | clc => exact hQ.implied (fun _ => hQ.withP _ _) h
  | cld => exact hQ.implied (fun _ => hQ.withP _ _) h
  | cli => exact hQ.implied (fun _ => hQ.withP _ _) h
  | clv => exact hQ.implied (fun _ => hQ.withP _ _) h
  | cmpIndx d => exact hQ.readMem (hQ.compareWith _) h
  | cmpZp d => exact hQ.readMem (hQ.compareWith _) h
  | cmpImm v => exact hQ.readImm (hQ.compareWith _) h
  | cmpAbs w => exact hQ.readMem (hQ.compareWith _) h
  | cmpIndy d => exact hQ.readMem (hQ.compareWith _) h
  | cmpZpx d => exact hQ.readMem (hQ.compareWith _) h
  | cmpAbsy w => exact hQ.readMem (hQ.compareWith _) h
  | cmpAbsx w => exact hQ.readMem (hQ.compareWith _) h
  | cpxImm v => exact hQ.readImm (hQ.compareWith _) h
  | cpxZp d => exact hQ.readMem (hQ.compareWith _) h
  | cpxAbs w => exact hQ.readMem (hQ.compareWith _) h
  | cpyImm v => exact hQ.readImm (hQ.compareWith _) h
  | cpyZp d => exact hQ.readMem (hQ.compareWith _) h
  | cpyAbs w => exact hQ.readMem (hQ.compareWith _) h
  | decZp d => exact hQ.bumpMem h
  | decAbs w => exact hQ.bumpMem h
  | decZpx d => exact hQ.bumpMem h
  | decAbsx w => exact hQ.bumpMem h
  | dex => exact hQ.implied (fun _ => hQ.loadX _ _) h
  | dey => exact hQ.implied (fun _ => hQ.loadY _ _) h
  | eorIndx d => exact hQ.readMem hQ.eorA h
  | eorZp d => exact hQ.readMem hQ.eorA h
  | eorImm v => exact hQ.readImm hQ.eorA h
  | eorAbs w => exact hQ.readMem hQ.eorA h
  | eorIndy d => exact hQ.readMem hQ.eorA h
  | eorZpx d => exact hQ.readMem hQ.eorA h
  | eorAbsy w => exact hQ.readMem hQ.eorA h
  | eorAbsx w => exact hQ.readMem hQ.eorA h
  | incZp d => exact hQ.bumpMem h
  | incAbs w => exact hQ.bumpMem h
  | incZpx d => exact hQ.bumpMem h
  | incAbsx w => exact hQ.bumpMem h
  | inx => exact hQ.implied (fun _ => hQ.loadX _ _) h
  | iny => exact hQ.implied (fun _ => hQ.loadY _ _) h
  | jmpAbs w => exact hQ.jumpTo (m := .abs w) h
  | jmpInd w => exact hQ.jumpTo (m := .ind w) h
  | jsr w => exact hQ.jsr h
  | ldaIndx d => exact hQ.readMem hQ.loadA h
  | ldaZp d => exact hQ.readMem hQ.loadA h
  | ldaImm v => exact hQ.readImm hQ.loadA h
  | ldaAbs w => exact hQ.readMem hQ.loadA h
  | ldaIndy d => exact hQ.readMem hQ.loadA h
  | ldaZpx d => exact hQ.readMem hQ.loadA h
  | ldaAbsy w => exact hQ.readMem hQ.loadA h
  | ldaAbsx w => exact hQ.readMem hQ.loadA h
  | ldxImm v => exact hQ.readImm hQ.loadX h
  | ldxZp d => exact hQ.readMem hQ.loadX h
  | ldxAbs w => exact hQ.readMem hQ.loadX h
  | ldxZpy d => exact hQ.readMem hQ.loadX h
  | ldxAbsy w => exact hQ.readMem hQ.loadX h
  | ldyImm v => exact hQ.readImm hQ.loadY h
  | ldyZp d => exact hQ.readMem hQ.loadY h
  | ldyAbs w => exact hQ.readMem hQ.loadY h
  | ldyZpx d => exact hQ.readMem hQ.loadY h
  | ldyAbsx w => exact hQ.readMem hQ.loadY h
  | lsrZp d => exact hQ.shiftMem h
  | lsrAcc => exact hQ.shiftAcc h
  | lsrAbs w => exact hQ.shiftMem h
  | lsrZpx d => exact hQ.shiftMem h
  | lsrAbsx w => exact hQ.shiftMem h
  | nop => exact hQ.implied (hQ.refl) h
  | oraIndx d => exact hQ.readMem hQ.oraA h
  | oraZp d => exact hQ.readMem hQ.oraA h
  | oraImm v => exact hQ.readImm hQ.oraA h
  | oraAbs w => exact hQ.readMem hQ.oraA h
  | oraIndy d => exact hQ.readMem hQ.oraA h
  | oraZpx d => exact hQ.readMem hQ.oraA h
  | oraAbsy w => exact hQ.readMem hQ.oraA h
  | oraAbsx w => exact hQ.readMem hQ.oraA h
  | pha => exact hQ.pha h
  | php => exact hQ.php h
  | pla => exact hQ.pla h
  | plp => exact hQ.plp h
  | rolZp d => exact hQ.shiftMem h
  | rolAcc => exact hQ.shiftAcc h
  | rolAbs w => exact hQ.shiftMem h
  | rolZpx d => exact hQ.shiftMem h
  | rolAbsx w => exact hQ.shiftMem h
  | rorZp d => exact hQ.shiftMem h
  | rorAcc => exact hQ.shiftAcc h
  | rorAbs w => exact hQ.shiftMem h
  | rorZpx d => exact hQ.shiftMem h
  | rorAbsx w => exact hQ.shiftMem h
  | rti => exact hQ.rti h
  | rts => exact hQ.rts h
  | sbcIndx d => exact hQ.readMem hQ.sbcA h
  | sbcZp d => exact hQ.readMem hQ.sbcA h
  | sbcImm v => exact hQ.readImm hQ.sbcA h
  | sbcAbs w => exact hQ.readMem hQ.sbcA h
  | sbcIndy d => exact hQ.readMem hQ.sbcA h
  | sbcZpx d => exact hQ.readMem hQ.sbcA h
  | sbcAbsy w => exact hQ.readMem hQ.sbcA h
  | sbcAbsx w => exact hQ.readMem hQ.sbcA h
  | sec => exact hQ.implied (fun _ => hQ.withP _ _) h
  | sed => exact hQ.implied (fun _ => hQ.withP _ _) h
  | sei => exact hQ.implied (fun _ => hQ.withP _ _) h
  | staIndx d => exact hQ.storeMem h
  | staZp d => exact hQ.storeMem h
  | staAbs w => exact hQ.storeMem h
  | staIndy d => exact hQ.storeMem h
  | staZpx d => exact hQ.storeMem h
  | staAbsy w => exact hQ.storeMem h
  | staAbsx w => exact hQ.storeMem h
  | stxZp d => exact hQ.storeMem h
  | stxAbs w => exact hQ.storeMem h
  | stxZpy d => exact hQ.storeMem h
  | styZp d => exact hQ.storeMem h
  | styAbs w => exact hQ.storeMem h
  | styZpx d => exact hQ.storeMem h
  | tax => exact hQ.implied (fun _ => hQ.loadX _ _) h
  | tay => exact hQ.implied (fun _ => hQ.loadY _ _) h
  | tsx => exact hQ.implied (fun _ => hQ.loadX _ _) h
  | txa => exact hQ.implied (fun _ => hQ.loadA _ _) h
  | txs => exact hQ.implied (fun _ => hQ.withSp _ _) h
  | tya => exact hQ.implied (fun _ => hQ.loadA _ _) h

end InstrRelation

end Sys2Proof.Machine
end

