-- ==== Sys2Proof/Laws/Step.lean ====
section
/-! SUPPORT. Fetching, services and the step, said once: what each can end in. And the routing facts every invariant needs. -/

namespace Sys2Proof.Machine

/-! Routing. -/

/-- A cell an address is routed to lies in the address space. -/
theorem routeIn_cell_lt {map : BusMap} {a k : Nat} (ha : a < 65536) (h : routeIn map a = .ram k ∨ routeIn map a = .rom k) :
    k < 65536 := by
  induction map with
  | nil => simp [routeIn] at h
  | cons r rs ih =>
    rw [routeIn] at h
    split at h
    · have hk : regionCell r a = k := by
        unfold regionRoute at h
        cases hr : r.kind <;> simp_all
      have := Nat.mod_le (a - r.first) r.period
      unfold regionCell at hk
      omega
    · exact ih h

theorem State.route_cell_lt {s : State} {addr : Word} {k : Nat} (h : s.route addr = .ram k ∨ s.route addr = .rom k) :
    k < 65536 :=
  routeIn_cell_lt addr.isLt h

/-- A write through the bus keeps the canonical form. -/
theorem State.poke_wf {s : State} (hw : Memory.wf s.mem = true) (addr : Word) (v : Byte) :
    Memory.wf (s.poke addr v).mem = true := by
  unfold State.poke
  split
  · exact Memory.write_wf _ _ _ hw (State.route_cell_lt (.inl ‹_›))
  all_goals exact hw

/-- On the flat map every address is a cell of its own. -/
theorem flatMap_route {s : State} (h : s.bus = flatMap) (addr : Word) : s.route addr = .ram addr.toNat := by
  have hlt := addr.isLt
  rw [State.route, h, flatMap, routeIn, if_pos (by simp; omega)]
  simp only [regionRoute, regionCell, Route.ram.injEq]
  omega

/-- The flat map refuses no address. -/
theorem flatMap_total {s : State} (h : s.bus = flatMap) : s.BusTotal := fun addr => by
  rw [State.refuses, flatMap_route h]
  rfl

/-! Fetching. -/

/-- Fetching changes nothing but the history. -/
theorem fetchBytes_ok {n : Nat} {addr : Word} {s t : State} {bs : List Byte} (h : fetchBytes n addr s = .ok bs t) :
    bs.length = n ∧ t = s.withIo t.io := by
  induction n generalizing addr s bs with
  | zero => cases h; exact ⟨rfl, rfl⟩
  | succ n ih =>
    simp only [fetchBytes, Access.bind_eq_ok, busRead_eq_ok] at h
    obtain ⟨b, u, ⟨-, rfl, rfl⟩, cs, u', h1, h2⟩ := h
    cases h2
    obtain ⟨h3, h4⟩ := ih h1
    refine ⟨by simp [h3], ?_⟩
    rw [State.afterRead_eq] at h4
    exact h4

theorem fetchBytes_total (n : Nat) (addr : Word) {s : State} (h : s.BusTotal) : ∃ bs t, fetchBytes n addr s = .ok bs t := by
  induction n generalizing addr s with
  | zero => exact ⟨[], s, rfl⟩
  | succ n ih =>
    obtain ⟨bs, t, ht⟩ := ih (addr + 1) (h.afterRead addr)
    exact ⟨_, _, by rw [fetchBytes, busRead_total h, Access.bind_ok, ht]; rfl⟩

theorem fetchBytes_refused {n : Nat} {addr a : Word} {s t : State} (h : fetchBytes n addr s = .refused a t) :
    s.refuses a = true ∧ t = s.withIo t.io := by
  induction n generalizing addr s with
  | zero => cases h
  | succ n ih =>
    rw [fetchBytes] at h
    cases hr : s.refuses addr with
    | true =>
      rw [busRead_refused hr] at h
      cases h
      exact ⟨hr, rfl⟩
    | false =>
      rw [busRead_eq_ok.2 ⟨hr, rfl, rfl⟩, Access.bind_ok] at h
      cases h1 : fetchBytes n (addr + 1) (s.afterRead addr) with
      | ok bs u => rw [h1] at h; cases h
      | refused b u =>
        rw [h1] at h
        cases h
        obtain ⟨h2, h3⟩ := ih h1
        rw [State.refuses_congr (State.afterRead_bus s addr)] at h2
        rw [State.afterRead_eq] at h3
        exact ⟨h2, h3⟩

/-- What a fetch that delivers an instruction has read: its bytes at PC, and nothing but the history has changed. -/
theorem fetchInstr_instr {s t : State} {i : Instr} (h : fetchInstr s = .instr i t) :
    ∃ bs rest, fetchBytes bs.length s.pc s = .ok bs t ∧ decode bs = .ok (i, rest) ∧ t = s.withIo t.io := by
  unfold fetchInstr at h
  cases hr : busRead s s.pc with
  | refused a u => rw [hr] at h; cases h
  | ok op u =>
    obtain ⟨h0, rfl, rfl⟩ := busRead_eq_ok.1 hr
    rw [hr] at h
    simp only [fetchOperands] at h
    split at h
    · cases h
    · rename_i d hd
      split at h
      · cases h
      · rename_i bs u hf
        split at h
        · rename_i j rest hd
          cases h
          obtain ⟨hl, -⟩ := fetchBytes_ok hf
          have hall : fetchBytes (s.peek s.pc :: bs).length s.pc s = .ok (s.peek s.pc :: bs) t := by
            rw [List.length_cons, hl, fetchBytes, hr, Access.bind_ok]
            rw [State.afterRead_pc] at hf
            rw [hf]
            rfl
          exact ⟨_, rest, hall, hd, (fetchBytes_ok hall).2⟩
        · cases h

/-- What a fetch the bus refuses leaves: the refused address is one, and nothing but PC and the history has changed. -/
theorem fetchInstr_refused {s t : State} {a : Word} (h : fetchInstr s = .refused a t) :
    s.refuses a = true ∧ t = (s.withPc t.pc).withIo t.io := by
  unfold fetchInstr at h
  cases hr : s.refuses s.pc with
  | true =>
    rw [busRead_refused hr] at h
    cases h
    exact ⟨hr, rfl⟩
  | false =>
    rw [busRead_eq_ok.2 ⟨hr, rfl, rfl⟩] at h
    simp only [fetchOperands] at h
    split at h
    · cases h
    · split at h
      · rename_i b u hf
        cases h
        obtain ⟨h1, h2⟩ := fetchBytes_refused hf
        rw [State.refuses_congr (State.afterRead_bus s s.pc)] at h1
        rw [State.afterRead_eq] at h2
        refine ⟨h1, ?_⟩
        rw [h2]
        rfl
      · split at h <;> cases h

/-! Services and the step. -/

theorem serviceNmi_ok {s t : State} {u : Unit} (h : serviceNmi s = .ok u t) :
    t = (s.trapped false vecNmi).withNmiPending false := by
  obtain ⟨_, v, h1, h2⟩ := Access.bind_eq_ok.1 h
  cases h2
  rw [enterTrap_ok h1]

theorem serviceNmi_total {s : State} (h : s.BusTotal) :
    serviceNmi s = .ok () ((s.trapped false vecNmi).withNmiPending false) := by
  rw [serviceNmi, enterTrap_total h]
  rfl

theorem serviceIrq_ok {s t : State} {u : Unit} (h : serviceIrq s = .ok u t) :
    t = (s.trapped false vecIrq).withIrqPending false := by
  obtain ⟨_, v, h1, h2⟩ := Access.bind_eq_ok.1 h
  cases h2
  rw [enterTrap_ok h1]

theorem serviceIrq_total {s : State} (h : s.BusTotal) :
    serviceIrq s = .ok () ((s.trapped false vecIrq).withIrqPending false) := by
  rw [serviceIrq, enterTrap_total h]
  rfl

theorem concludeRun_outcome (r : Result) (s : State) (n : Nat) : (concludeRun r s n).outcome = r := by
  rcases r with t | f | x
  · rfl
  · cases f <;> rfl
  · rfl

theorem concludeRun_returned {r : Result} {s t : State} {n k : Nat} (h : concludeRun r s n = .returned t k) :
    r = .next t ∧ k = n := by
  rcases r with u | f | x
  · cases h; exact ⟨rfl, rfl⟩
  · cases f <;> cases h
  · cases h

/-- A step that answers a next state is an NMI service, an IRQ service or one fetched instruction. -/
theorem step_next_cases {s t : State} (h : step s = .next t) :
    s.run = .running ∧
      ((s.nmiPending = true ∧ t = (s.trapped false vecNmi).withNmiPending false) ∨
        (s.nmiPending = false ∧ s.irqPending = true ∧ s.p.i = false ∧ t = (s.trapped false vecIrq).withIrqPending false) ∨
        (s.NoService ∧ ∃ i u, fetchInstr s = .instr i u ∧ exec i u = .next t)) := by
  unfold step runCall at h
  cases hr : s.run <;> rw [hr] at h
  · cases h
  · refine ⟨rfl, ?_⟩
    simp only [runRunning] at h
    split at h
    · rename_i hn
      rw [concludeRun_outcome] at h
      exact .inl ⟨hn, serviceNmi_ok (finish_eq_next.1 h)⟩
    · rename_i hn
      rw [Bool.not_eq_true] at hn
      split at h
      · rename_i hi
        rw [concludeRun_outcome] at h
        rw [Bool.and_eq_true, Bool.not_eq_true'] at hi
        exact .inr (.inl ⟨hn, hi.1, hi.2, serviceIrq_ok (finish_eq_next.1 h)⟩)
      · rename_i hi
        refine .inr (.inr ⟨⟨hn, ?_⟩, ?_⟩)
        · cases h1 : s.irqPending <;> cases h2 : s.p.i <;> simp_all
        · unfold executeInstruction at h
          split at h
          · rename_i i u hf
            rw [concludeRun_outcome] at h
            exact ⟨i, u, hf, h⟩
          · cases h
          · cases h
  · cases h

/-- In Running, with nothing to service, a call is the execution of one instruction. -/
theorem runCall_instruction {s : State} (hr : s.run = .running) (hs : s.NoService) : runCall s = executeInstruction s := by
  obtain ⟨hn, hi⟩ := hs
  unfold runCall
  rw [hr]
  simp only [runRunning, hn, Bool.false_eq_true, if_false]
  rw [if_neg]
  rcases hi with h | h <;> simp [h]

/-- Fetching keeps a relation that reads keep. -/
theorem InstrRelation.fetchBytes {Q : State → State → Prop} (hQ : InstrRelation Q) {n : Nat} {addr : Word} {s t : State}
    {bs : List Byte} (h : fetchBytes n addr s = .ok bs t) : Q s t := by
  induction n generalizing addr s bs with
  | zero => cases h; exact hQ.refl _
  | succ n ih =>
    simp only [Machine.fetchBytes, Access.bind_eq_ok, busRead_eq_ok] at h
    obtain ⟨b, u, ⟨-, rfl, rfl⟩, cs, u', h1, h2⟩ := h
    cases h2
    exact hQ.trans (hQ.afterRead _ _) (ih h1)

/-- A relation that an instruction and a write of a pending bit keep is kept by a step. -/
theorem InstrRelation.step {Q : State → State → Prop} (hQ : InstrRelation Q) (hn : ∀ s v, Q s (s.withNmiPending v))
    (hi : ∀ s v, Q s (s.withIrqPending v)) {s t : State} (h : step s = .next t) : Q s t := by
  obtain ⟨-, ⟨-, rfl⟩ | ⟨-, -, -, rfl⟩ | ⟨-, i, u, hf, he⟩⟩ := step_next_cases h
  · exact hQ.trans (hQ.trapped _ _ _) (hn _ _)
  · exact hQ.trans (hQ.trapped _ _ _) (hi _ _)
  · obtain ⟨bs, rest, h1, -, -⟩ := fetchInstr_instr hf
    exact hQ.trans (hQ.fetchBytes h1) (hQ.exec he)

end Sys2Proof.Machine
end

