-- ==== Sys2Proof/Laws/Commute.lean ====
section
/-! SUPPORT. A bus transaction looks at no register, so it commutes with the write of one; and the stack and the traps written with
`slot`, `peekWord` and `trapEntry`, as claims write them. -/

namespace Sys2Proof.Machine

/-! One lemma per transaction and register: the register's write moves outward. -/

@[simp] theorem State.peek_withA (s : State) (v : Byte) (a : Word) : (s.withA v).peek a = s.peek a :=
  State.peek_congr rfl rfl rfl a
@[simp] theorem State.afterRead_withA (s : State) (v : Byte) (a : Word) : (s.withA v).afterRead a = (s.afterRead a).withA v := by
  unfold State.afterRead
  rw [State.route_congr (s := s) (t := s.withA v) rfl]
  split <;> rfl
@[simp] theorem State.poke_withA (s : State) (v : Byte) (a : Word) (b : Byte) :
    (s.withA v).poke a b = (s.poke a b).withA v := by
  unfold State.poke
  rw [State.route_congr (s := s) (t := s.withA v) rfl]
  split <;> rfl
@[simp] theorem State.peekWord_withA (s : State) (v : Byte) (a b : Word) : (s.withA v).peekWord a b = s.peekWord a b := by
  simp [State.peekWord]
@[simp] theorem State.afterReadWord_withA (s : State) (v : Byte) (a b : Word) :
    (s.withA v).afterReadWord a b = (s.afterReadWord a b).withA v := by
  simp [State.afterReadWord]

@[simp] theorem State.peek_withX (s : State) (v : Byte) (a : Word) : (s.withX v).peek a = s.peek a :=
  State.peek_congr rfl rfl rfl a
@[simp] theorem State.afterRead_withX (s : State) (v : Byte) (a : Word) : (s.withX v).afterRead a = (s.afterRead a).withX v := by
  unfold State.afterRead
  rw [State.route_congr (s := s) (t := s.withX v) rfl]
  split <;> rfl
@[simp] theorem State.poke_withX (s : State) (v : Byte) (a : Word) (b : Byte) :
    (s.withX v).poke a b = (s.poke a b).withX v := by
  unfold State.poke
  rw [State.route_congr (s := s) (t := s.withX v) rfl]
  split <;> rfl
@[simp] theorem State.peekWord_withX (s : State) (v : Byte) (a b : Word) : (s.withX v).peekWord a b = s.peekWord a b := by
  simp [State.peekWord]
@[simp] theorem State.afterReadWord_withX (s : State) (v : Byte) (a b : Word) :
    (s.withX v).afterReadWord a b = (s.afterReadWord a b).withX v := by
  simp [State.afterReadWord]

@[simp] theorem State.peek_withY (s : State) (v : Byte) (a : Word) : (s.withY v).peek a = s.peek a :=
  State.peek_congr rfl rfl rfl a
@[simp] theorem State.afterRead_withY (s : State) (v : Byte) (a : Word) : (s.withY v).afterRead a = (s.afterRead a).withY v := by
  unfold State.afterRead
  rw [State.route_congr (s := s) (t := s.withY v) rfl]
  split <;> rfl
@[simp] theorem State.poke_withY (s : State) (v : Byte) (a : Word) (b : Byte) :
    (s.withY v).poke a b = (s.poke a b).withY v := by
  unfold State.poke
  rw [State.route_congr (s := s) (t := s.withY v) rfl]
  split <;> rfl
@[simp] theorem State.peekWord_withY (s : State) (v : Byte) (a b : Word) : (s.withY v).peekWord a b = s.peekWord a b := by
  simp [State.peekWord]
@[simp] theorem State.afterReadWord_withY (s : State) (v : Byte) (a b : Word) :
    (s.withY v).afterReadWord a b = (s.afterReadWord a b).withY v := by
  simp [State.afterReadWord]

@[simp] theorem State.peek_withSp (s : State) (v : Byte) (a : Word) : (s.withSp v).peek a = s.peek a :=
  State.peek_congr rfl rfl rfl a
@[simp] theorem State.afterRead_withSp (s : State) (v : Byte) (a : Word) : (s.withSp v).afterRead a = (s.afterRead a).withSp v := by
  unfold State.afterRead
  rw [State.route_congr (s := s) (t := s.withSp v) rfl]
  split <;> rfl
@[simp] theorem State.poke_withSp (s : State) (v : Byte) (a : Word) (b : Byte) :
    (s.withSp v).poke a b = (s.poke a b).withSp v := by
  unfold State.poke
  rw [State.route_congr (s := s) (t := s.withSp v) rfl]
  split <;> rfl
@[simp] theorem State.peekWord_withSp (s : State) (v : Byte) (a b : Word) : (s.withSp v).peekWord a b = s.peekWord a b := by
  simp [State.peekWord]
@[simp] theorem State.afterReadWord_withSp (s : State) (v : Byte) (a b : Word) :
    (s.withSp v).afterReadWord a b = (s.afterReadWord a b).withSp v := by
  simp [State.afterReadWord]

@[simp] theorem State.peek_withPc (s : State) (v : Word) (a : Word) : (s.withPc v).peek a = s.peek a :=
  State.peek_congr rfl rfl rfl a
@[simp] theorem State.afterRead_withPc (s : State) (v : Word) (a : Word) : (s.withPc v).afterRead a = (s.afterRead a).withPc v := by
  unfold State.afterRead
  rw [State.route_congr (s := s) (t := s.withPc v) rfl]
  split <;> rfl
@[simp] theorem State.poke_withPc (s : State) (v : Word) (a : Word) (b : Byte) :
    (s.withPc v).poke a b = (s.poke a b).withPc v := by
  unfold State.poke
  rw [State.route_congr (s := s) (t := s.withPc v) rfl]
  split <;> rfl
@[simp] theorem State.peekWord_withPc (s : State) (v : Word) (a b : Word) : (s.withPc v).peekWord a b = s.peekWord a b := by
  simp [State.peekWord]
@[simp] theorem State.afterReadWord_withPc (s : State) (v : Word) (a b : Word) :
    (s.withPc v).afterReadWord a b = (s.afterReadWord a b).withPc v := by
  simp [State.afterReadWord]

@[simp] theorem State.peek_withP (s : State) (v : Flags) (a : Word) : (s.withP v).peek a = s.peek a :=
  State.peek_congr rfl rfl rfl a
@[simp] theorem State.afterRead_withP (s : State) (v : Flags) (a : Word) : (s.withP v).afterRead a = (s.afterRead a).withP v := by
  unfold State.afterRead
  rw [State.route_congr (s := s) (t := s.withP v) rfl]
  split <;> rfl
@[simp] theorem State.poke_withP (s : State) (v : Flags) (a : Word) (b : Byte) :
    (s.withP v).poke a b = (s.poke a b).withP v := by
  unfold State.poke
  rw [State.route_congr (s := s) (t := s.withP v) rfl]
  split <;> rfl
@[simp] theorem State.peekWord_withP (s : State) (v : Flags) (a b : Word) : (s.withP v).peekWord a b = s.peekWord a b := by
  simp [State.peekWord]
@[simp] theorem State.afterReadWord_withP (s : State) (v : Flags) (a b : Word) :
    (s.withP v).afterReadWord a b = (s.afterReadWord a b).withP v := by
  simp [State.afterReadWord]

@[simp] theorem State.peek_withIrqPending (s : State) (v : Bool) (a : Word) : (s.withIrqPending v).peek a = s.peek a :=
  State.peek_congr rfl rfl rfl a
@[simp] theorem State.afterRead_withIrqPending (s : State) (v : Bool) (a : Word) : (s.withIrqPending v).afterRead a = (s.afterRead a).withIrqPending v := by
  unfold State.afterRead
  rw [State.route_congr (s := s) (t := s.withIrqPending v) rfl]
  split <;> rfl
@[simp] theorem State.poke_withIrqPending (s : State) (v : Bool) (a : Word) (b : Byte) :
    (s.withIrqPending v).poke a b = (s.poke a b).withIrqPending v := by
  unfold State.poke
  rw [State.route_congr (s := s) (t := s.withIrqPending v) rfl]
  split <;> rfl
@[simp] theorem State.peekWord_withIrqPending (s : State) (v : Bool) (a b : Word) : (s.withIrqPending v).peekWord a b = s.peekWord a b := by
  simp [State.peekWord]
@[simp] theorem State.afterReadWord_withIrqPending (s : State) (v : Bool) (a b : Word) :
    (s.withIrqPending v).afterReadWord a b = (s.afterReadWord a b).withIrqPending v := by
  simp [State.afterReadWord]

@[simp] theorem State.peek_withNmiPending (s : State) (v : Bool) (a : Word) : (s.withNmiPending v).peek a = s.peek a :=
  State.peek_congr rfl rfl rfl a
@[simp] theorem State.afterRead_withNmiPending (s : State) (v : Bool) (a : Word) : (s.withNmiPending v).afterRead a = (s.afterRead a).withNmiPending v := by
  unfold State.afterRead
  rw [State.route_congr (s := s) (t := s.withNmiPending v) rfl]
  split <;> rfl
@[simp] theorem State.poke_withNmiPending (s : State) (v : Bool) (a : Word) (b : Byte) :
    (s.withNmiPending v).poke a b = (s.poke a b).withNmiPending v := by
  unfold State.poke
  rw [State.route_congr (s := s) (t := s.withNmiPending v) rfl]
  split <;> rfl
@[simp] theorem State.peekWord_withNmiPending (s : State) (v : Bool) (a b : Word) : (s.withNmiPending v).peekWord a b = s.peekWord a b := by
  simp [State.peekWord]
@[simp] theorem State.afterReadWord_withNmiPending (s : State) (v : Bool) (a b : Word) :
    (s.withNmiPending v).afterReadWord a b = (s.afterReadWord a b).withNmiPending v := by
  simp [State.afterReadWord]

@[simp] theorem State.peek_withRun (s : State) (v : RunState) (a : Word) : (s.withRun v).peek a = s.peek a :=
  State.peek_congr rfl rfl rfl a
@[simp] theorem State.afterRead_withRun (s : State) (v : RunState) (a : Word) : (s.withRun v).afterRead a = (s.afterRead a).withRun v := by
  unfold State.afterRead
  rw [State.route_congr (s := s) (t := s.withRun v) rfl]
  split <;> rfl
@[simp] theorem State.poke_withRun (s : State) (v : RunState) (a : Word) (b : Byte) :
    (s.withRun v).poke a b = (s.poke a b).withRun v := by
  unfold State.poke
  rw [State.route_congr (s := s) (t := s.withRun v) rfl]
  split <;> rfl
@[simp] theorem State.peekWord_withRun (s : State) (v : RunState) (a b : Word) : (s.withRun v).peekWord a b = s.peekWord a b := by
  simp [State.peekWord]
@[simp] theorem State.afterReadWord_withRun (s : State) (v : RunState) (a b : Word) :
    (s.withRun v).afterReadWord a b = (s.afterReadWord a b).withRun v := by
  simp [State.afterReadWord]

/-! The stack in the terms of claims. -/

theorem sub_one_one (v : Byte) : v - 1 - 1 = v - 2 := by
  bv_omega

theorem add_one_one (v : Byte) : v + 1 + 1 = v + 2 := by
  bv_omega

theorem State.pushed_eq_slot (s : State) (v : Byte) : s.pushed v = (s.poke (slot s.sp) v).withSp (s.sp - 1) := by
  rw [State.pushed, stackAddr_eq_slot]

theorem State.top_eq_slot (s : State) : s.top = s.peek (slot (s.sp + 1)) := by
  rw [State.top, stackAddr_eq_slot]

theorem State.pulled_eq_slot (s : State) : s.pulled = (s.afterRead (slot (s.sp + 1))).withSp (s.sp + 1) := by
  rw [State.pulled, stackAddr_eq_slot]

/-- Two pushes. -/
theorem State.pushed_pushed (s : State) (h l : Byte) :
    (s.pushed h).pushed l = ((s.poke (slot s.sp) h).poke (slot (s.sp - 1)) l).withSp (s.sp - 2) := by
  simp only [State.pushed_eq_slot, State.withSp_sp, State.poke_withSp, sub_one_one]
  rfl

/-- Two pulls. -/
theorem State.pulled_pulled (s : State) :
    s.pulled.pulled = (s.afterReadWord (slot (s.sp + 1)) (slot (s.sp + 2))).withSp (s.sp + 2) := by
  simp only [State.pulled_eq_slot, State.withSp_sp, State.afterRead_withSp, add_one_one]
  rfl

/-- The word two pulls deliver. -/
theorem State.top_top (s : State) : word s.pulled.top s.top = s.peekWord (slot (s.sp + 1)) (slot (s.sp + 2)) := by
  simp only [State.top_eq_slot, State.pulled_eq_slot, State.withSp_sp, State.peek_withSp, add_one_one]
  rfl

/-- Taking a trap, in the terms of claims. -/
theorem State.trapped_eq (s : State) (brk : Bool) (vec : Word) : s.trapped brk vec = s.trapEntry s.pc brk vec := by
  have h : (s.sp - 2 - 1 : Byte) = s.sp - 3 := by bv_omega
  simp only [State.trapped, State.pushed_pushed]
  simp only [State.pushed_eq_slot, State.withSp_sp, State.poke_withSp, State.afterReadWord_withSp, State.afterReadWord_withP,
    State.peekWord_withSp, State.peekWord_withP, h]
  rw [State.afterReadWord_eq]
  simp only [State.trapEntry, State.withPc, State.withP, State.withSp, State.withIo, Flags.setI, State.poke_a, State.poke_x,
    State.poke_y, State.poke_pc, State.poke_p, State.poke_irqPending, State.poke_nmiPending, State.poke_run, State.poke_bus,
    State.poke_params]

/-- A trap entered from another PC with another return address is the same. -/
theorem State.trapEntry_withPc (s : State) (v ret : Word) (brk : Bool) (vec : Word) :
    (s.withPc v).trapEntry ret brk vec = s.trapEntry ret brk vec := by
  simp only [State.trapEntry, State.poke_withPc, State.peekWord_withPc, State.afterReadWord_withPc, State.withPc_p,
    State.withPc_sp, State.withPc_io]
  rfl

/-- Returning from a trap, in the terms of claims. -/
theorem State.returned_eq (s : State) :
    s.returned = ((((s.afterRead (slot (s.sp + 1))).afterReadWord (slot (s.sp + 2)) (slot (s.sp + 3))).withSp (s.sp + 3)).withP
      (Flags.ofByte (s.peek (slot (s.sp + 1))))).withPc
        ((s.afterRead (slot (s.sp + 1))).peekWord (slot (s.sp + 2)) (slot (s.sp + 3))) := by
  have h2 : s.sp + 1 + 2 = s.sp + 3 := by bv_omega
  simp only [State.returned, State.pulled_pulled, State.top_top]
  simp only [State.top_eq_slot, State.pulled_eq_slot, State.withP_sp, State.withSp_sp, State.afterReadWord_withP,
    State.afterReadWord_withSp, State.peekWord_withP, State.peekWord_withSp, add_one_one, h2]
  rfl

end Sys2Proof.Machine
end

