-- ==== Sys2Proof/Laws/PerInstr.lean ====
section
/-! SUPPORT. Facts about every instruction as syntax, one lemma per constructor: how long its encoding is (R81, R82), and that its
assembly line exists in the opcode map (R86). -/

namespace Sys2Proof.Laws.EncodingLength

/-- An instruction is encoded in as many bytes as its mode has (R81, R82). -/
def Statement (i : Instr) : Prop := (encode i).length = i.length

theorem adcIndx (d : Byte) : Statement (.adcIndx d) := rfl
theorem adcZp (d : Byte) : Statement (.adcZp d) := rfl
theorem adcImm (v : Byte) : Statement (.adcImm v) := rfl
theorem adcAbs (w : Word) : Statement (.adcAbs w) := rfl
theorem adcIndy (d : Byte) : Statement (.adcIndy d) := rfl
theorem adcZpx (d : Byte) : Statement (.adcZpx d) := rfl
theorem adcAbsy (w : Word) : Statement (.adcAbsy w) := rfl
theorem adcAbsx (w : Word) : Statement (.adcAbsx w) := rfl
theorem andIndx (d : Byte) : Statement (.andIndx d) := rfl
theorem andZp (d : Byte) : Statement (.andZp d) := rfl
theorem andImm (v : Byte) : Statement (.andImm v) := rfl
theorem andAbs (w : Word) : Statement (.andAbs w) := rfl
theorem andIndy (d : Byte) : Statement (.andIndy d) := rfl
theorem andZpx (d : Byte) : Statement (.andZpx d) := rfl
theorem andAbsy (w : Word) : Statement (.andAbsy w) := rfl
theorem andAbsx (w : Word) : Statement (.andAbsx w) := rfl
theorem aslZp (d : Byte) : Statement (.aslZp d) := rfl
theorem aslAcc : Statement .aslAcc := rfl
theorem aslAbs (w : Word) : Statement (.aslAbs w) := rfl
theorem aslZpx (d : Byte) : Statement (.aslZpx d) := rfl
theorem aslAbsx (w : Word) : Statement (.aslAbsx w) := rfl
theorem bcc (d : Byte) : Statement (.bcc d) := rfl
theorem bcs (d : Byte) : Statement (.bcs d) := rfl
theorem beq (d : Byte) : Statement (.beq d) := rfl
theorem bitZp (d : Byte) : Statement (.bitZp d) := rfl
theorem bitAbs (w : Word) : Statement (.bitAbs w) := rfl
theorem bmi (d : Byte) : Statement (.bmi d) := rfl
theorem bne (d : Byte) : Statement (.bne d) := rfl
theorem bpl (d : Byte) : Statement (.bpl d) := rfl
theorem brk : Statement .brk := rfl
theorem bvc (d : Byte) : Statement (.bvc d) := rfl
theorem bvs (d : Byte) : Statement (.bvs d) := rfl
theorem clc : Statement .clc := rfl
theorem cld : Statement .cld := rfl
theorem cli : Statement .cli := rfl
theorem clv : Statement .clv := rfl
theorem cmpIndx (d : Byte) : Statement (.cmpIndx d) := rfl
theorem cmpZp (d : Byte) : Statement (.cmpZp d) := rfl
theorem cmpImm (v : Byte) : Statement (.cmpImm v) := rfl
theorem cmpAbs (w : Word) : Statement (.cmpAbs w) := rfl
theorem cmpIndy (d : Byte) : Statement (.cmpIndy d) := rfl
theorem cmpZpx (d : Byte) : Statement (.cmpZpx d) := rfl
theorem cmpAbsy (w : Word) : Statement (.cmpAbsy w) := rfl
theorem cmpAbsx (w : Word) : Statement (.cmpAbsx w) := rfl
theorem cpxImm (v : Byte) : Statement (.cpxImm v) := rfl
theorem cpxZp (d : Byte) : Statement (.cpxZp d) := rfl
theorem cpxAbs (w : Word) : Statement (.cpxAbs w) := rfl
theorem cpyImm (v : Byte) : Statement (.cpyImm v) := rfl
theorem cpyZp (d : Byte) : Statement (.cpyZp d) := rfl
theorem cpyAbs (w : Word) : Statement (.cpyAbs w) := rfl
theorem decZp (d : Byte) : Statement (.decZp d) := rfl
theorem decAbs (w : Word) : Statement (.decAbs w) := rfl
theorem decZpx (d : Byte) : Statement (.decZpx d) := rfl
theorem decAbsx (w : Word) : Statement (.decAbsx w) := rfl
theorem dex : Statement .dex := rfl
theorem dey : Statement .dey := rfl
theorem eorIndx (d : Byte) : Statement (.eorIndx d) := rfl
theorem eorZp (d : Byte) : Statement (.eorZp d) := rfl
theorem eorImm (v : Byte) : Statement (.eorImm v) := rfl
theorem eorAbs (w : Word) : Statement (.eorAbs w) := rfl
theorem eorIndy (d : Byte) : Statement (.eorIndy d) := rfl
theorem eorZpx (d : Byte) : Statement (.eorZpx d) := rfl
theorem eorAbsy (w : Word) : Statement (.eorAbsy w) := rfl
theorem eorAbsx (w : Word) : Statement (.eorAbsx w) := rfl
theorem incZp (d : Byte) : Statement (.incZp d) := rfl
theorem incAbs (w : Word) : Statement (.incAbs w) := rfl
theorem incZpx (d : Byte) : Statement (.incZpx d) := rfl
theorem incAbsx (w : Word) : Statement (.incAbsx w) := rfl
theorem inx : Statement .inx := rfl
theorem iny : Statement .iny := rfl
theorem jmpAbs (w : Word) : Statement (.jmpAbs w) := rfl
theorem jmpInd (w : Word) : Statement (.jmpInd w) := rfl
theorem jsr (w : Word) : Statement (.jsr w) := rfl
theorem ldaIndx (d : Byte) : Statement (.ldaIndx d) := rfl
theorem ldaZp (d : Byte) : Statement (.ldaZp d) := rfl
theorem ldaImm (v : Byte) : Statement (.ldaImm v) := rfl
theorem ldaAbs (w : Word) : Statement (.ldaAbs w) := rfl
theorem ldaIndy (d : Byte) : Statement (.ldaIndy d) := rfl
theorem ldaZpx (d : Byte) : Statement (.ldaZpx d) := rfl
theorem ldaAbsy (w : Word) : Statement (.ldaAbsy w) := rfl
theorem ldaAbsx (w : Word) : Statement (.ldaAbsx w) := rfl
theorem ldxImm (v : Byte) : Statement (.ldxImm v) := rfl
theorem ldxZp (d : Byte) : Statement (.ldxZp d) := rfl
theorem ldxAbs (w : Word) : Statement (.ldxAbs w) := rfl
theorem ldxZpy (d : Byte) : Statement (.ldxZpy d) := rfl
theorem ldxAbsy (w : Word) : Statement (.ldxAbsy w) := rfl
theorem ldyImm (v : Byte) : Statement (.ldyImm v) := rfl
theorem ldyZp (d : Byte) : Statement (.ldyZp d) := rfl
theorem ldyAbs (w : Word) : Statement (.ldyAbs w) := rfl
theorem ldyZpx (d : Byte) : Statement (.ldyZpx d) := rfl
theorem ldyAbsx (w : Word) : Statement (.ldyAbsx w) := rfl
theorem lsrZp (d : Byte) : Statement (.lsrZp d) := rfl
theorem lsrAcc : Statement .lsrAcc := rfl
theorem lsrAbs (w : Word) : Statement (.lsrAbs w) := rfl
theorem lsrZpx (d : Byte) : Statement (.lsrZpx d) := rfl
theorem lsrAbsx (w : Word) : Statement (.lsrAbsx w) := rfl
theorem nop : Statement .nop := rfl
theorem oraIndx (d : Byte) : Statement (.oraIndx d) := rfl
theorem oraZp (d : Byte) : Statement (.oraZp d) := rfl
theorem oraImm (v : Byte) : Statement (.oraImm v) := rfl
theorem oraAbs (w : Word) : Statement (.oraAbs w) := rfl
theorem oraIndy (d : Byte) : Statement (.oraIndy d) := rfl
theorem oraZpx (d : Byte) : Statement (.oraZpx d) := rfl
theorem oraAbsy (w : Word) : Statement (.oraAbsy w) := rfl
theorem oraAbsx (w : Word) : Statement (.oraAbsx w) := rfl
theorem pha : Statement .pha := rfl
theorem php : Statement .php := rfl
theorem pla : Statement .pla := rfl
theorem plp : Statement .plp := rfl
theorem rolZp (d : Byte) : Statement (.rolZp d) := rfl
theorem rolAcc : Statement .rolAcc := rfl
theorem rolAbs (w : Word) : Statement (.rolAbs w) := rfl
theorem rolZpx (d : Byte) : Statement (.rolZpx d) := rfl
theorem rolAbsx (w : Word) : Statement (.rolAbsx w) := rfl
theorem rorZp (d : Byte) : Statement (.rorZp d) := rfl
theorem rorAcc : Statement .rorAcc := rfl
theorem rorAbs (w : Word) : Statement (.rorAbs w) := rfl
theorem rorZpx (d : Byte) : Statement (.rorZpx d) := rfl
theorem rorAbsx (w : Word) : Statement (.rorAbsx w) := rfl
theorem rti : Statement .rti := rfl
theorem rts : Statement .rts := rfl
theorem sbcIndx (d : Byte) : Statement (.sbcIndx d) := rfl
theorem sbcZp (d : Byte) : Statement (.sbcZp d) := rfl
theorem sbcImm (v : Byte) : Statement (.sbcImm v) := rfl
theorem sbcAbs (w : Word) : Statement (.sbcAbs w) := rfl
theorem sbcIndy (d : Byte) : Statement (.sbcIndy d) := rfl
theorem sbcZpx (d : Byte) : Statement (.sbcZpx d) := rfl
theorem sbcAbsy (w : Word) : Statement (.sbcAbsy w) := rfl
theorem sbcAbsx (w : Word) : Statement (.sbcAbsx w) := rfl
theorem sec : Statement .sec := rfl
theorem sed : Statement .sed := rfl
theorem sei : Statement .sei := rfl
theorem staIndx (d : Byte) : Statement (.staIndx d) := rfl
theorem staZp (d : Byte) : Statement (.staZp d) := rfl
theorem staAbs (w : Word) : Statement (.staAbs w) := rfl
theorem staIndy (d : Byte) : Statement (.staIndy d) := rfl
theorem staZpx (d : Byte) : Statement (.staZpx d) := rfl
theorem staAbsy (w : Word) : Statement (.staAbsy w) := rfl
theorem staAbsx (w : Word) : Statement (.staAbsx w) := rfl
theorem stxZp (d : Byte) : Statement (.stxZp d) := rfl
theorem stxAbs (w : Word) : Statement (.stxAbs w) := rfl
theorem stxZpy (d : Byte) : Statement (.stxZpy d) := rfl
theorem styZp (d : Byte) : Statement (.styZp d) := rfl
theorem styAbs (w : Word) : Statement (.styAbs w) := rfl
theorem styZpx (d : Byte) : Statement (.styZpx d) := rfl
theorem tax : Statement .tax := rfl
theorem tay : Statement .tay := rfl
theorem tsx : Statement .tsx := rfl
theorem txa : Statement .txa := rfl
theorem txs : Statement .txs := rfl
theorem tya : Statement .tya := rfl

end Sys2Proof.Laws.EncodingLength

namespace Sys2Proof.Laws.WellFormed

/-- The mnemonic of an instruction exists in its mode (R86). -/
def Statement (i : Instr) : Prop := i.wellFormed = true

theorem adcIndx (d : Byte) : Statement (.adcIndx d) := rfl
theorem adcZp (d : Byte) : Statement (.adcZp d) := rfl
theorem adcImm (v : Byte) : Statement (.adcImm v) := rfl
theorem adcAbs (w : Word) : Statement (.adcAbs w) := rfl
theorem adcIndy (d : Byte) : Statement (.adcIndy d) := rfl
theorem adcZpx (d : Byte) : Statement (.adcZpx d) := rfl
theorem adcAbsy (w : Word) : Statement (.adcAbsy w) := rfl
theorem adcAbsx (w : Word) : Statement (.adcAbsx w) := rfl
theorem andIndx (d : Byte) : Statement (.andIndx d) := rfl
theorem andZp (d : Byte) : Statement (.andZp d) := rfl
theorem andImm (v : Byte) : Statement (.andImm v) := rfl
theorem andAbs (w : Word) : Statement (.andAbs w) := rfl
theorem andIndy (d : Byte) : Statement (.andIndy d) := rfl
theorem andZpx (d : Byte) : Statement (.andZpx d) := rfl
theorem andAbsy (w : Word) : Statement (.andAbsy w) := rfl
theorem andAbsx (w : Word) : Statement (.andAbsx w) := rfl
theorem aslZp (d : Byte) : Statement (.aslZp d) := rfl
theorem aslAcc : Statement .aslAcc := rfl
theorem aslAbs (w : Word) : Statement (.aslAbs w) := rfl
theorem aslZpx (d : Byte) : Statement (.aslZpx d) := rfl
theorem aslAbsx (w : Word) : Statement (.aslAbsx w) := rfl
theorem bcc (d : Byte) : Statement (.bcc d) := rfl
theorem bcs (d : Byte) : Statement (.bcs d) := rfl
theorem beq (d : Byte) : Statement (.beq d) := rfl
theorem bitZp (d : Byte) : Statement (.bitZp d) := rfl
theorem bitAbs (w : Word) : Statement (.bitAbs w) := rfl
theorem bmi (d : Byte) : Statement (.bmi d) := rfl
theorem bne (d : Byte) : Statement (.bne d) := rfl
theorem bpl (d : Byte) : Statement (.bpl d) := rfl
theorem brk : Statement .brk := rfl
theorem bvc (d : Byte) : Statement (.bvc d) := rfl
theorem bvs (d : Byte) : Statement (.bvs d) := rfl
theorem clc : Statement .clc := rfl
theorem cld : Statement .cld := rfl
theorem cli : Statement .cli := rfl
theorem clv : Statement .clv := rfl
theorem cmpIndx (d : Byte) : Statement (.cmpIndx d) := rfl
theorem cmpZp (d : Byte) : Statement (.cmpZp d) := rfl
theorem cmpImm (v : Byte) : Statement (.cmpImm v) := rfl
theorem cmpAbs (w : Word) : Statement (.cmpAbs w) := rfl
theorem cmpIndy (d : Byte) : Statement (.cmpIndy d) := rfl
theorem cmpZpx (d : Byte) : Statement (.cmpZpx d) := rfl
theorem cmpAbsy (w : Word) : Statement (.cmpAbsy w) := rfl
theorem cmpAbsx (w : Word) : Statement (.cmpAbsx w) := rfl
theorem cpxImm (v : Byte) : Statement (.cpxImm v) := rfl
theorem cpxZp (d : Byte) : Statement (.cpxZp d) := rfl
theorem cpxAbs (w : Word) : Statement (.cpxAbs w) := rfl
theorem cpyImm (v : Byte) : Statement (.cpyImm v) := rfl
theorem cpyZp (d : Byte) : Statement (.cpyZp d) := rfl
theorem cpyAbs (w : Word) : Statement (.cpyAbs w) := rfl
theorem decZp (d : Byte) : Statement (.decZp d) := rfl
theorem decAbs (w : Word) : Statement (.decAbs w) := rfl
theorem decZpx (d : Byte) : Statement (.decZpx d) := rfl
theorem decAbsx (w : Word) : Statement (.decAbsx w) := rfl
theorem dex : Statement .dex := rfl
theorem dey : Statement .dey := rfl
theorem eorIndx (d : Byte) : Statement (.eorIndx d) := rfl
theorem eorZp (d : Byte) : Statement (.eorZp d) := rfl
theorem eorImm (v : Byte) : Statement (.eorImm v) := rfl
theorem eorAbs (w : Word) : Statement (.eorAbs w) := rfl
theorem eorIndy (d : Byte) : Statement (.eorIndy d) := rfl
theorem eorZpx (d : Byte) : Statement (.eorZpx d) := rfl
theorem eorAbsy (w : Word) : Statement (.eorAbsy w) := rfl
theorem eorAbsx (w : Word) : Statement (.eorAbsx w) := rfl
theorem incZp (d : Byte) : Statement (.incZp d) := rfl
theorem incAbs (w : Word) : Statement (.incAbs w) := rfl
theorem incZpx (d : Byte) : Statement (.incZpx d) := rfl
theorem incAbsx (w : Word) : Statement (.incAbsx w) := rfl
theorem inx : Statement .inx := rfl
theorem iny : Statement .iny := rfl
theorem jmpAbs (w : Word) : Statement (.jmpAbs w) := rfl
theorem jmpInd (w : Word) : Statement (.jmpInd w) := rfl
theorem jsr (w : Word) : Statement (.jsr w) := rfl
theorem ldaIndx (d : Byte) : Statement (.ldaIndx d) := rfl
theorem ldaZp (d : Byte) : Statement (.ldaZp d) := rfl
theorem ldaImm (v : Byte) : Statement (.ldaImm v) := rfl
theorem ldaAbs (w : Word) : Statement (.ldaAbs w) := rfl
theorem ldaIndy (d : Byte) : Statement (.ldaIndy d) := rfl
theorem ldaZpx (d : Byte) : Statement (.ldaZpx d) := rfl
theorem ldaAbsy (w : Word) : Statement (.ldaAbsy w) := rfl
theorem ldaAbsx (w : Word) : Statement (.ldaAbsx w) := rfl
theorem ldxImm (v : Byte) : Statement (.ldxImm v) := rfl
theorem ldxZp (d : Byte) : Statement (.ldxZp d) := rfl
theorem ldxAbs (w : Word) : Statement (.ldxAbs w) := rfl
theorem ldxZpy (d : Byte) : Statement (.ldxZpy d) := rfl
theorem ldxAbsy (w : Word) : Statement (.ldxAbsy w) := rfl
theorem ldyImm (v : Byte) : Statement (.ldyImm v) := rfl
theorem ldyZp (d : Byte) : Statement (.ldyZp d) := rfl
theorem ldyAbs (w : Word) : Statement (.ldyAbs w) := rfl
theorem ldyZpx (d : Byte) : Statement (.ldyZpx d) := rfl
theorem ldyAbsx (w : Word) : Statement (.ldyAbsx w) := rfl
theorem lsrZp (d : Byte) : Statement (.lsrZp d) := rfl
theorem lsrAcc : Statement .lsrAcc := rfl
theorem lsrAbs (w : Word) : Statement (.lsrAbs w) := rfl
theorem lsrZpx (d : Byte) : Statement (.lsrZpx d) := rfl
theorem lsrAbsx (w : Word) : Statement (.lsrAbsx w) := rfl
theorem nop : Statement .nop := rfl
theorem oraIndx (d : Byte) : Statement (.oraIndx d) := rfl
theorem oraZp (d : Byte) : Statement (.oraZp d) := rfl
theorem oraImm (v : Byte) : Statement (.oraImm v) := rfl
theorem oraAbs (w : Word) : Statement (.oraAbs w) := rfl
theorem oraIndy (d : Byte) : Statement (.oraIndy d) := rfl
theorem oraZpx (d : Byte) : Statement (.oraZpx d) := rfl
theorem oraAbsy (w : Word) : Statement (.oraAbsy w) := rfl
theorem oraAbsx (w : Word) : Statement (.oraAbsx w) := rfl
theorem pha : Statement .pha := rfl
theorem php : Statement .php := rfl
theorem pla : Statement .pla := rfl
theorem plp : Statement .plp := rfl
theorem rolZp (d : Byte) : Statement (.rolZp d) := rfl
theorem rolAcc : Statement .rolAcc := rfl
theorem rolAbs (w : Word) : Statement (.rolAbs w) := rfl
theorem rolZpx (d : Byte) : Statement (.rolZpx d) := rfl
theorem rolAbsx (w : Word) : Statement (.rolAbsx w) := rfl
theorem rorZp (d : Byte) : Statement (.rorZp d) := rfl
theorem rorAcc : Statement .rorAcc := rfl
theorem rorAbs (w : Word) : Statement (.rorAbs w) := rfl
theorem rorZpx (d : Byte) : Statement (.rorZpx d) := rfl
theorem rorAbsx (w : Word) : Statement (.rorAbsx w) := rfl
theorem rti : Statement .rti := rfl
theorem rts : Statement .rts := rfl
theorem sbcIndx (d : Byte) : Statement (.sbcIndx d) := rfl
theorem sbcZp (d : Byte) : Statement (.sbcZp d) := rfl
theorem sbcImm (v : Byte) : Statement (.sbcImm v) := rfl
theorem sbcAbs (w : Word) : Statement (.sbcAbs w) := rfl
theorem sbcIndy (d : Byte) : Statement (.sbcIndy d) := rfl
theorem sbcZpx (d : Byte) : Statement (.sbcZpx d) := rfl
theorem sbcAbsy (w : Word) : Statement (.sbcAbsy w) := rfl
theorem sbcAbsx (w : Word) : Statement (.sbcAbsx w) := rfl
theorem sec : Statement .sec := rfl
theorem sed : Statement .sed := rfl
theorem sei : Statement .sei := rfl
theorem staIndx (d : Byte) : Statement (.staIndx d) := rfl
theorem staZp (d : Byte) : Statement (.staZp d) := rfl
theorem staAbs (w : Word) : Statement (.staAbs w) := rfl
theorem staIndy (d : Byte) : Statement (.staIndy d) := rfl
theorem staZpx (d : Byte) : Statement (.staZpx d) := rfl
theorem staAbsy (w : Word) : Statement (.staAbsy w) := rfl
theorem staAbsx (w : Word) : Statement (.staAbsx w) := rfl
theorem stxZp (d : Byte) : Statement (.stxZp d) := rfl
theorem stxAbs (w : Word) : Statement (.stxAbs w) := rfl
theorem stxZpy (d : Byte) : Statement (.stxZpy d) := rfl
theorem styZp (d : Byte) : Statement (.styZp d) := rfl
theorem styAbs (w : Word) : Statement (.styAbs w) := rfl
theorem styZpx (d : Byte) : Statement (.styZpx d) := rfl
theorem tax : Statement .tax := rfl
theorem tay : Statement .tay := rfl
theorem tsx : Statement .tsx := rfl
theorem txa : Statement .txa := rfl
theorem txs : Statement .txs := rfl
theorem tya : Statement .tya := rfl

end Sys2Proof.Laws.WellFormed
end

