-- ==== Sys2Proof/Laws/Table.lean ====
section
/-! SUPPORT. The opcode table seen from both sides: a descriptor found by its byte is a row of the table, and the descriptor of each
instruction is its row (R84, R85, R86). -/

namespace Sys2Proof

/-- What dispatch finds is the row of that opcode byte. -/
theorem dispatch_eq_some {op : Byte} {d : Descriptor} (h : dispatch op = some d) : d ∈ opcodeTable ∧ d.opcode = op :=
  ⟨List.mem_of_find?_eq_some h, by simpa using List.find?_some h⟩

/-! The row of each instruction. -/

theorem descriptor_brk :
    Instr.descriptor (.brk) = some ⟨0x00, .brk, .imp, 7, false, false, .f1 .brk⟩ := rfl
theorem descriptor_oraIndx (d : Byte) :
    Instr.descriptor (.oraIndx d) = some ⟨0x01, .ora, .indx, 6, false, false, .f2 .oraIndx⟩ := rfl
theorem descriptor_oraZp (d : Byte) :
    Instr.descriptor (.oraZp d) = some ⟨0x05, .ora, .zp, 3, false, false, .f2 .oraZp⟩ := rfl
theorem descriptor_aslZp (d : Byte) :
    Instr.descriptor (.aslZp d) = some ⟨0x06, .asl, .zp, 5, false, false, .f2 .aslZp⟩ := rfl
theorem descriptor_php :
    Instr.descriptor (.php) = some ⟨0x08, .php, .imp, 3, false, false, .f1 .php⟩ := rfl
theorem descriptor_oraImm (d : Byte) :
    Instr.descriptor (.oraImm d) = some ⟨0x09, .ora, .imm, 2, false, false, .f2 .oraImm⟩ := rfl
theorem descriptor_aslAcc :
    Instr.descriptor (.aslAcc) = some ⟨0x0A, .asl, .acc, 2, false, false, .f1 .aslAcc⟩ := rfl
theorem descriptor_oraAbs (w : Word) :
    Instr.descriptor (.oraAbs w) = some ⟨0x0D, .ora, .abs, 4, false, false, .f3 .oraAbs⟩ := rfl
theorem descriptor_aslAbs (w : Word) :
    Instr.descriptor (.aslAbs w) = some ⟨0x0E, .asl, .abs, 6, false, false, .f3 .aslAbs⟩ := rfl
theorem descriptor_bpl (d : Byte) :
    Instr.descriptor (.bpl d) = some ⟨0x10, .bpl, .rel, 2, false, true, .f2 .bpl⟩ := rfl
theorem descriptor_oraIndy (d : Byte) :
    Instr.descriptor (.oraIndy d) = some ⟨0x11, .ora, .indy, 5, true, false, .f2 .oraIndy⟩ := rfl
theorem descriptor_oraZpx (d : Byte) :
    Instr.descriptor (.oraZpx d) = some ⟨0x15, .ora, .zpx, 4, false, false, .f2 .oraZpx⟩ := rfl
theorem descriptor_aslZpx (d : Byte) :
    Instr.descriptor (.aslZpx d) = some ⟨0x16, .asl, .zpx, 6, false, false, .f2 .aslZpx⟩ := rfl
theorem descriptor_clc :
    Instr.descriptor (.clc) = some ⟨0x18, .clc, .imp, 2, false, false, .f1 .clc⟩ := rfl
theorem descriptor_oraAbsy (w : Word) :
    Instr.descriptor (.oraAbsy w) = some ⟨0x19, .ora, .absy, 4, true, false, .f3 .oraAbsy⟩ := rfl
theorem descriptor_oraAbsx (w : Word) :
    Instr.descriptor (.oraAbsx w) = some ⟨0x1D, .ora, .absx, 4, true, false, .f3 .oraAbsx⟩ := rfl
theorem descriptor_aslAbsx (w : Word) :
    Instr.descriptor (.aslAbsx w) = some ⟨0x1E, .asl, .absx, 7, false, false, .f3 .aslAbsx⟩ := rfl
theorem descriptor_jsr (w : Word) :
    Instr.descriptor (.jsr w) = some ⟨0x20, .jsr, .abs, 6, false, false, .f3 .jsr⟩ := rfl
theorem descriptor_andIndx (d : Byte) :
    Instr.descriptor (.andIndx d) = some ⟨0x21, .and, .indx, 6, false, false, .f2 .andIndx⟩ := rfl
theorem descriptor_bitZp (d : Byte) :
    Instr.descriptor (.bitZp d) = some ⟨0x24, .bit, .zp, 3, false, false, .f2 .bitZp⟩ := rfl
theorem descriptor_andZp (d : Byte) :
    Instr.descriptor (.andZp d) = some ⟨0x25, .and, .zp, 3, false, false, .f2 .andZp⟩ := rfl
theorem descriptor_rolZp (d : Byte) :
    Instr.descriptor (.rolZp d) = some ⟨0x26, .rol, .zp, 5, false, false, .f2 .rolZp⟩ := rfl
theorem descriptor_plp :
    Instr.descriptor (.plp) = some ⟨0x28, .plp, .imp, 4, false, false, .f1 .plp⟩ := rfl
theorem descriptor_andImm (d : Byte) :
    Instr.descriptor (.andImm d) = some ⟨0x29, .and, .imm, 2, false, false, .f2 .andImm⟩ := rfl
theorem descriptor_rolAcc :
    Instr.descriptor (.rolAcc) = some ⟨0x2A, .rol, .acc, 2, false, false, .f1 .rolAcc⟩ := rfl
theorem descriptor_bitAbs (w : Word) :
    Instr.descriptor (.bitAbs w) = some ⟨0x2C, .bit, .abs, 4, false, false, .f3 .bitAbs⟩ := rfl
theorem descriptor_andAbs (w : Word) :
    Instr.descriptor (.andAbs w) = some ⟨0x2D, .and, .abs, 4, false, false, .f3 .andAbs⟩ := rfl
theorem descriptor_rolAbs (w : Word) :
    Instr.descriptor (.rolAbs w) = some ⟨0x2E, .rol, .abs, 6, false, false, .f3 .rolAbs⟩ := rfl
theorem descriptor_bmi (d : Byte) :
    Instr.descriptor (.bmi d) = some ⟨0x30, .bmi, .rel, 2, false, true, .f2 .bmi⟩ := rfl
theorem descriptor_andIndy (d : Byte) :
    Instr.descriptor (.andIndy d) = some ⟨0x31, .and, .indy, 5, true, false, .f2 .andIndy⟩ := rfl
theorem descriptor_andZpx (d : Byte) :
    Instr.descriptor (.andZpx d) = some ⟨0x35, .and, .zpx, 4, false, false, .f2 .andZpx⟩ := rfl
theorem descriptor_rolZpx (d : Byte) :
    Instr.descriptor (.rolZpx d) = some ⟨0x36, .rol, .zpx, 6, false, false, .f2 .rolZpx⟩ := rfl
theorem descriptor_sec :
    Instr.descriptor (.sec) = some ⟨0x38, .sec, .imp, 2, false, false, .f1 .sec⟩ := rfl
theorem descriptor_andAbsy (w : Word) :
    Instr.descriptor (.andAbsy w) = some ⟨0x39, .and, .absy, 4, true, false, .f3 .andAbsy⟩ := rfl
theorem descriptor_andAbsx (w : Word) :
    Instr.descriptor (.andAbsx w) = some ⟨0x3D, .and, .absx, 4, true, false, .f3 .andAbsx⟩ := rfl
theorem descriptor_rolAbsx (w : Word) :
    Instr.descriptor (.rolAbsx w) = some ⟨0x3E, .rol, .absx, 7, false, false, .f3 .rolAbsx⟩ := rfl
theorem descriptor_rti :
    Instr.descriptor (.rti) = some ⟨0x40, .rti, .imp, 6, false, false, .f1 .rti⟩ := rfl
theorem descriptor_eorIndx (d : Byte) :
    Instr.descriptor (.eorIndx d) = some ⟨0x41, .eor, .indx, 6, false, false, .f2 .eorIndx⟩ := rfl
theorem descriptor_eorZp (d : Byte) :
    Instr.descriptor (.eorZp d) = some ⟨0x45, .eor, .zp, 3, false, false, .f2 .eorZp⟩ := rfl
theorem descriptor_lsrZp (d : Byte) :
    Instr.descriptor (.lsrZp d) = some ⟨0x46, .lsr, .zp, 5, false, false, .f2 .lsrZp⟩ := rfl
theorem descriptor_pha :
    Instr.descriptor (.pha) = some ⟨0x48, .pha, .imp, 3, false, false, .f1 .pha⟩ := rfl
theorem descriptor_eorImm (d : Byte) :
    Instr.descriptor (.eorImm d) = some ⟨0x49, .eor, .imm, 2, false, false, .f2 .eorImm⟩ := rfl
theorem descriptor_lsrAcc :
    Instr.descriptor (.lsrAcc) = some ⟨0x4A, .lsr, .acc, 2, false, false, .f1 .lsrAcc⟩ := rfl
theorem descriptor_jmpAbs (w : Word) :
    Instr.descriptor (.jmpAbs w) = some ⟨0x4C, .jmp, .abs, 3, false, false, .f3 .jmpAbs⟩ := rfl
theorem descriptor_eorAbs (w : Word) :
    Instr.descriptor (.eorAbs w) = some ⟨0x4D, .eor, .abs, 4, false, false, .f3 .eorAbs⟩ := rfl
theorem descriptor_lsrAbs (w : Word) :
    Instr.descriptor (.lsrAbs w) = some ⟨0x4E, .lsr, .abs, 6, false, false, .f3 .lsrAbs⟩ := rfl
theorem descriptor_bvc (d : Byte) :
    Instr.descriptor (.bvc d) = some ⟨0x50, .bvc, .rel, 2, false, true, .f2 .bvc⟩ := rfl
theorem descriptor_eorIndy (d : Byte) :
    Instr.descriptor (.eorIndy d) = some ⟨0x51, .eor, .indy, 5, true, false, .f2 .eorIndy⟩ := rfl
theorem descriptor_eorZpx (d : Byte) :
    Instr.descriptor (.eorZpx d) = some ⟨0x55, .eor, .zpx, 4, false, false, .f2 .eorZpx⟩ := rfl
theorem descriptor_lsrZpx (d : Byte) :
    Instr.descriptor (.lsrZpx d) = some ⟨0x56, .lsr, .zpx, 6, false, false, .f2 .lsrZpx⟩ := rfl
theorem descriptor_cli :
    Instr.descriptor (.cli) = some ⟨0x58, .cli, .imp, 2, false, false, .f1 .cli⟩ := rfl
theorem descriptor_eorAbsy (w : Word) :
    Instr.descriptor (.eorAbsy w) = some ⟨0x59, .eor, .absy, 4, true, false, .f3 .eorAbsy⟩ := rfl
theorem descriptor_eorAbsx (w : Word) :
    Instr.descriptor (.eorAbsx w) = some ⟨0x5D, .eor, .absx, 4, true, false, .f3 .eorAbsx⟩ := rfl
theorem descriptor_lsrAbsx (w : Word) :
    Instr.descriptor (.lsrAbsx w) = some ⟨0x5E, .lsr, .absx, 7, false, false, .f3 .lsrAbsx⟩ := rfl
theorem descriptor_rts :
    Instr.descriptor (.rts) = some ⟨0x60, .rts, .imp, 6, false, false, .f1 .rts⟩ := rfl
theorem descriptor_adcIndx (d : Byte) :
    Instr.descriptor (.adcIndx d) = some ⟨0x61, .adc, .indx, 6, false, false, .f2 .adcIndx⟩ := rfl
theorem descriptor_adcZp (d : Byte) :
    Instr.descriptor (.adcZp d) = some ⟨0x65, .adc, .zp, 3, false, false, .f2 .adcZp⟩ := rfl
theorem descriptor_rorZp (d : Byte) :
    Instr.descriptor (.rorZp d) = some ⟨0x66, .ror, .zp, 5, false, false, .f2 .rorZp⟩ := rfl
theorem descriptor_pla :
    Instr.descriptor (.pla) = some ⟨0x68, .pla, .imp, 4, false, false, .f1 .pla⟩ := rfl
theorem descriptor_adcImm (d : Byte) :
    Instr.descriptor (.adcImm d) = some ⟨0x69, .adc, .imm, 2, false, false, .f2 .adcImm⟩ := rfl
theorem descriptor_rorAcc :
    Instr.descriptor (.rorAcc) = some ⟨0x6A, .ror, .acc, 2, false, false, .f1 .rorAcc⟩ := rfl
theorem descriptor_jmpInd (w : Word) :
    Instr.descriptor (.jmpInd w) = some ⟨0x6C, .jmp, .ind, 5, false, false, .f3 .jmpInd⟩ := rfl
theorem descriptor_adcAbs (w : Word) :
    Instr.descriptor (.adcAbs w) = some ⟨0x6D, .adc, .abs, 4, false, false, .f3 .adcAbs⟩ := rfl
theorem descriptor_rorAbs (w : Word) :
    Instr.descriptor (.rorAbs w) = some ⟨0x6E, .ror, .abs, 6, false, false, .f3 .rorAbs⟩ := rfl
theorem descriptor_bvs (d : Byte) :
    Instr.descriptor (.bvs d) = some ⟨0x70, .bvs, .rel, 2, false, true, .f2 .bvs⟩ := rfl
theorem descriptor_adcIndy (d : Byte) :
    Instr.descriptor (.adcIndy d) = some ⟨0x71, .adc, .indy, 5, true, false, .f2 .adcIndy⟩ := rfl
theorem descriptor_adcZpx (d : Byte) :
    Instr.descriptor (.adcZpx d) = some ⟨0x75, .adc, .zpx, 4, false, false, .f2 .adcZpx⟩ := rfl
theorem descriptor_rorZpx (d : Byte) :
    Instr.descriptor (.rorZpx d) = some ⟨0x76, .ror, .zpx, 6, false, false, .f2 .rorZpx⟩ := rfl
theorem descriptor_sei :
    Instr.descriptor (.sei) = some ⟨0x78, .sei, .imp, 2, false, false, .f1 .sei⟩ := rfl
theorem descriptor_adcAbsy (w : Word) :
    Instr.descriptor (.adcAbsy w) = some ⟨0x79, .adc, .absy, 4, true, false, .f3 .adcAbsy⟩ := rfl
theorem descriptor_adcAbsx (w : Word) :
    Instr.descriptor (.adcAbsx w) = some ⟨0x7D, .adc, .absx, 4, true, false, .f3 .adcAbsx⟩ := rfl
theorem descriptor_rorAbsx (w : Word) :
    Instr.descriptor (.rorAbsx w) = some ⟨0x7E, .ror, .absx, 7, false, false, .f3 .rorAbsx⟩ := rfl
theorem descriptor_staIndx (d : Byte) :
    Instr.descriptor (.staIndx d) = some ⟨0x81, .sta, .indx, 6, false, false, .f2 .staIndx⟩ := rfl
theorem descriptor_styZp (d : Byte) :
    Instr.descriptor (.styZp d) = some ⟨0x84, .sty, .zp, 3, false, false, .f2 .styZp⟩ := rfl
theorem descriptor_staZp (d : Byte) :
    Instr.descriptor (.staZp d) = some ⟨0x85, .sta, .zp, 3, false, false, .f2 .staZp⟩ := rfl
theorem descriptor_stxZp (d : Byte) :
    Instr.descriptor (.stxZp d) = some ⟨0x86, .stx, .zp, 3, false, false, .f2 .stxZp⟩ := rfl
theorem descriptor_dey :
    Instr.descriptor (.dey) = some ⟨0x88, .dey, .imp, 2, false, false, .f1 .dey⟩ := rfl
theorem descriptor_txa :
    Instr.descriptor (.txa) = some ⟨0x8A, .txa, .imp, 2, false, false, .f1 .txa⟩ := rfl
theorem descriptor_styAbs (w : Word) :
    Instr.descriptor (.styAbs w) = some ⟨0x8C, .sty, .abs, 4, false, false, .f3 .styAbs⟩ := rfl
theorem descriptor_staAbs (w : Word) :
    Instr.descriptor (.staAbs w) = some ⟨0x8D, .sta, .abs, 4, false, false, .f3 .staAbs⟩ := rfl
theorem descriptor_stxAbs (w : Word) :
    Instr.descriptor (.stxAbs w) = some ⟨0x8E, .stx, .abs, 4, false, false, .f3 .stxAbs⟩ := rfl
theorem descriptor_bcc (d : Byte) :
    Instr.descriptor (.bcc d) = some ⟨0x90, .bcc, .rel, 2, false, true, .f2 .bcc⟩ := rfl
theorem descriptor_staIndy (d : Byte) :
    Instr.descriptor (.staIndy d) = some ⟨0x91, .sta, .indy, 6, false, false, .f2 .staIndy⟩ := rfl
theorem descriptor_styZpx (d : Byte) :
    Instr.descriptor (.styZpx d) = some ⟨0x94, .sty, .zpx, 4, false, false, .f2 .styZpx⟩ := rfl
theorem descriptor_staZpx (d : Byte) :
    Instr.descriptor (.staZpx d) = some ⟨0x95, .sta, .zpx, 4, false, false, .f2 .staZpx⟩ := rfl
theorem descriptor_stxZpy (d : Byte) :
    Instr.descriptor (.stxZpy d) = some ⟨0x96, .stx, .zpy, 4, false, false, .f2 .stxZpy⟩ := rfl
theorem descriptor_tya :
    Instr.descriptor (.tya) = some ⟨0x98, .tya, .imp, 2, false, false, .f1 .tya⟩ := rfl
theorem descriptor_staAbsy (w : Word) :
    Instr.descriptor (.staAbsy w) = some ⟨0x99, .sta, .absy, 5, false, false, .f3 .staAbsy⟩ := rfl
theorem descriptor_txs :
    Instr.descriptor (.txs) = some ⟨0x9A, .txs, .imp, 2, false, false, .f1 .txs⟩ := rfl
theorem descriptor_staAbsx (w : Word) :
    Instr.descriptor (.staAbsx w) = some ⟨0x9D, .sta, .absx, 5, false, false, .f3 .staAbsx⟩ := rfl
theorem descriptor_ldyImm (d : Byte) :
    Instr.descriptor (.ldyImm d) = some ⟨0xA0, .ldy, .imm, 2, false, false, .f2 .ldyImm⟩ := rfl
theorem descriptor_ldaIndx (d : Byte) :
    Instr.descriptor (.ldaIndx d) = some ⟨0xA1, .lda, .indx, 6, false, false, .f2 .ldaIndx⟩ := rfl
theorem descriptor_ldxImm (d : Byte) :
    Instr.descriptor (.ldxImm d) = some ⟨0xA2, .ldx, .imm, 2, false, false, .f2 .ldxImm⟩ := rfl
theorem descriptor_ldyZp (d : Byte) :
    Instr.descriptor (.ldyZp d) = some ⟨0xA4, .ldy, .zp, 3, false, false, .f2 .ldyZp⟩ := rfl
theorem descriptor_ldaZp (d : Byte) :
    Instr.descriptor (.ldaZp d) = some ⟨0xA5, .lda, .zp, 3, false, false, .f2 .ldaZp⟩ := rfl
theorem descriptor_ldxZp (d : Byte) :
    Instr.descriptor (.ldxZp d) = some ⟨0xA6, .ldx, .zp, 3, false, false, .f2 .ldxZp⟩ := rfl
theorem descriptor_tay :
    Instr.descriptor (.tay) = some ⟨0xA8, .tay, .imp, 2, false, false, .f1 .tay⟩ := rfl
theorem descriptor_ldaImm (d : Byte) :
    Instr.descriptor (.ldaImm d) = some ⟨0xA9, .lda, .imm, 2, false, false, .f2 .ldaImm⟩ := rfl
theorem descriptor_tax :
    Instr.descriptor (.tax) = some ⟨0xAA, .tax, .imp, 2, false, false, .f1 .tax⟩ := rfl
theorem descriptor_ldyAbs (w : Word) :
    Instr.descriptor (.ldyAbs w) = some ⟨0xAC, .ldy, .abs, 4, false, false, .f3 .ldyAbs⟩ := rfl
theorem descriptor_ldaAbs (w : Word) :
    Instr.descriptor (.ldaAbs w) = some ⟨0xAD, .lda, .abs, 4, false, false, .f3 .ldaAbs⟩ := rfl
theorem descriptor_ldxAbs (w : Word) :
    Instr.descriptor (.ldxAbs w) = some ⟨0xAE, .ldx, .abs, 4, false, false, .f3 .ldxAbs⟩ := rfl
theorem descriptor_bcs (d : Byte) :
    Instr.descriptor (.bcs d) = some ⟨0xB0, .bcs, .rel, 2, false, true, .f2 .bcs⟩ := rfl
theorem descriptor_ldaIndy (d : Byte) :
    Instr.descriptor (.ldaIndy d) = some ⟨0xB1, .lda, .indy, 5, true, false, .f2 .ldaIndy⟩ := rfl
theorem descriptor_ldyZpx (d : Byte) :
    Instr.descriptor (.ldyZpx d) = some ⟨0xB4, .ldy, .zpx, 4, false, false, .f2 .ldyZpx⟩ := rfl
theorem descriptor_ldaZpx (d : Byte) :
    Instr.descriptor (.ldaZpx d) = some ⟨0xB5, .lda, .zpx, 4, false, false, .f2 .ldaZpx⟩ := rfl
theorem descriptor_ldxZpy (d : Byte) :
    Instr.descriptor (.ldxZpy d) = some ⟨0xB6, .ldx, .zpy, 4, false, false, .f2 .ldxZpy⟩ := rfl
theorem descriptor_clv :
    Instr.descriptor (.clv) = some ⟨0xB8, .clv, .imp, 2, false, false, .f1 .clv⟩ := rfl
theorem descriptor_ldaAbsy (w : Word) :
    Instr.descriptor (.ldaAbsy w) = some ⟨0xB9, .lda, .absy, 4, true, false, .f3 .ldaAbsy⟩ := rfl
theorem descriptor_tsx :
    Instr.descriptor (.tsx) = some ⟨0xBA, .tsx, .imp, 2, false, false, .f1 .tsx⟩ := rfl
theorem descriptor_ldyAbsx (w : Word) :
    Instr.descriptor (.ldyAbsx w) = some ⟨0xBC, .ldy, .absx, 4, true, false, .f3 .ldyAbsx⟩ := rfl
theorem descriptor_ldaAbsx (w : Word) :
    Instr.descriptor (.ldaAbsx w) = some ⟨0xBD, .lda, .absx, 4, true, false, .f3 .ldaAbsx⟩ := rfl
theorem descriptor_ldxAbsy (w : Word) :
    Instr.descriptor (.ldxAbsy w) = some ⟨0xBE, .ldx, .absy, 4, true, false, .f3 .ldxAbsy⟩ := rfl
theorem descriptor_cpyImm (d : Byte) :
    Instr.descriptor (.cpyImm d) = some ⟨0xC0, .cpy, .imm, 2, false, false, .f2 .cpyImm⟩ := rfl
theorem descriptor_cmpIndx (d : Byte) :
    Instr.descriptor (.cmpIndx d) = some ⟨0xC1, .cmp, .indx, 6, false, false, .f2 .cmpIndx⟩ := rfl
theorem descriptor_cpyZp (d : Byte) :
    Instr.descriptor (.cpyZp d) = some ⟨0xC4, .cpy, .zp, 3, false, false, .f2 .cpyZp⟩ := rfl
theorem descriptor_cmpZp (d : Byte) :
    Instr.descriptor (.cmpZp d) = some ⟨0xC5, .cmp, .zp, 3, false, false, .f2 .cmpZp⟩ := rfl
theorem descriptor_decZp (d : Byte) :
    Instr.descriptor (.decZp d) = some ⟨0xC6, .dec, .zp, 5, false, false, .f2 .decZp⟩ := rfl
theorem descriptor_iny :
    Instr.descriptor (.iny) = some ⟨0xC8, .iny, .imp, 2, false, false, .f1 .iny⟩ := rfl
theorem descriptor_cmpImm (d : Byte) :
    Instr.descriptor (.cmpImm d) = some ⟨0xC9, .cmp, .imm, 2, false, false, .f2 .cmpImm⟩ := rfl
theorem descriptor_dex :
    Instr.descriptor (.dex) = some ⟨0xCA, .dex, .imp, 2, false, false, .f1 .dex⟩ := rfl
theorem descriptor_cpyAbs (w : Word) :
    Instr.descriptor (.cpyAbs w) = some ⟨0xCC, .cpy, .abs, 4, false, false, .f3 .cpyAbs⟩ := rfl
theorem descriptor_cmpAbs (w : Word) :
    Instr.descriptor (.cmpAbs w) = some ⟨0xCD, .cmp, .abs, 4, false, false, .f3 .cmpAbs⟩ := rfl
theorem descriptor_decAbs (w : Word) :
    Instr.descriptor (.decAbs w) = some ⟨0xCE, .dec, .abs, 6, false, false, .f3 .decAbs⟩ := rfl
theorem descriptor_bne (d : Byte) :
    Instr.descriptor (.bne d) = some ⟨0xD0, .bne, .rel, 2, false, true, .f2 .bne⟩ := rfl
theorem descriptor_cmpIndy (d : Byte) :
    Instr.descriptor (.cmpIndy d) = some ⟨0xD1, .cmp, .indy, 5, true, false, .f2 .cmpIndy⟩ := rfl
theorem descriptor_cmpZpx (d : Byte) :
    Instr.descriptor (.cmpZpx d) = some ⟨0xD5, .cmp, .zpx, 4, false, false, .f2 .cmpZpx⟩ := rfl
theorem descriptor_decZpx (d : Byte) :
    Instr.descriptor (.decZpx d) = some ⟨0xD6, .dec, .zpx, 6, false, false, .f2 .decZpx⟩ := rfl
theorem descriptor_cld :
    Instr.descriptor (.cld) = some ⟨0xD8, .cld, .imp, 2, false, false, .f1 .cld⟩ := rfl
theorem descriptor_cmpAbsy (w : Word) :
    Instr.descriptor (.cmpAbsy w) = some ⟨0xD9, .cmp, .absy, 4, true, false, .f3 .cmpAbsy⟩ := rfl
theorem descriptor_cmpAbsx (w : Word) :
    Instr.descriptor (.cmpAbsx w) = some ⟨0xDD, .cmp, .absx, 4, true, false, .f3 .cmpAbsx⟩ := rfl
theorem descriptor_decAbsx (w : Word) :
    Instr.descriptor (.decAbsx w) = some ⟨0xDE, .dec, .absx, 7, false, false, .f3 .decAbsx⟩ := rfl
theorem descriptor_cpxImm (d : Byte) :
    Instr.descriptor (.cpxImm d) = some ⟨0xE0, .cpx, .imm, 2, false, false, .f2 .cpxImm⟩ := rfl
theorem descriptor_sbcIndx (d : Byte) :
    Instr.descriptor (.sbcIndx d) = some ⟨0xE1, .sbc, .indx, 6, false, false, .f2 .sbcIndx⟩ := rfl
theorem descriptor_cpxZp (d : Byte) :
    Instr.descriptor (.cpxZp d) = some ⟨0xE4, .cpx, .zp, 3, false, false, .f2 .cpxZp⟩ := rfl
theorem descriptor_sbcZp (d : Byte) :
    Instr.descriptor (.sbcZp d) = some ⟨0xE5, .sbc, .zp, 3, false, false, .f2 .sbcZp⟩ := rfl
theorem descriptor_incZp (d : Byte) :
    Instr.descriptor (.incZp d) = some ⟨0xE6, .inc, .zp, 5, false, false, .f2 .incZp⟩ := rfl
theorem descriptor_inx :
    Instr.descriptor (.inx) = some ⟨0xE8, .inx, .imp, 2, false, false, .f1 .inx⟩ := rfl
theorem descriptor_sbcImm (d : Byte) :
    Instr.descriptor (.sbcImm d) = some ⟨0xE9, .sbc, .imm, 2, false, false, .f2 .sbcImm⟩ := rfl
theorem descriptor_nop :
    Instr.descriptor (.nop) = some ⟨0xEA, .nop, .imp, 2, false, false, .f1 .nop⟩ := rfl
theorem descriptor_cpxAbs (w : Word) :
    Instr.descriptor (.cpxAbs w) = some ⟨0xEC, .cpx, .abs, 4, false, false, .f3 .cpxAbs⟩ := rfl
theorem descriptor_sbcAbs (w : Word) :
    Instr.descriptor (.sbcAbs w) = some ⟨0xED, .sbc, .abs, 4, false, false, .f3 .sbcAbs⟩ := rfl
theorem descriptor_incAbs (w : Word) :
    Instr.descriptor (.incAbs w) = some ⟨0xEE, .inc, .abs, 6, false, false, .f3 .incAbs⟩ := rfl
theorem descriptor_beq (d : Byte) :
    Instr.descriptor (.beq d) = some ⟨0xF0, .beq, .rel, 2, false, true, .f2 .beq⟩ := rfl
theorem descriptor_sbcIndy (d : Byte) :
    Instr.descriptor (.sbcIndy d) = some ⟨0xF1, .sbc, .indy, 5, true, false, .f2 .sbcIndy⟩ := rfl
theorem descriptor_sbcZpx (d : Byte) :
    Instr.descriptor (.sbcZpx d) = some ⟨0xF5, .sbc, .zpx, 4, false, false, .f2 .sbcZpx⟩ := rfl
theorem descriptor_incZpx (d : Byte) :
    Instr.descriptor (.incZpx d) = some ⟨0xF6, .inc, .zpx, 6, false, false, .f2 .incZpx⟩ := rfl
theorem descriptor_sed :
    Instr.descriptor (.sed) = some ⟨0xF8, .sed, .imp, 2, false, false, .f1 .sed⟩ := rfl
theorem descriptor_sbcAbsy (w : Word) :
    Instr.descriptor (.sbcAbsy w) = some ⟨0xF9, .sbc, .absy, 4, true, false, .f3 .sbcAbsy⟩ := rfl
theorem descriptor_sbcAbsx (w : Word) :
    Instr.descriptor (.sbcAbsx w) = some ⟨0xFD, .sbc, .absx, 4, true, false, .f3 .sbcAbsx⟩ := rfl
theorem descriptor_incAbsx (w : Word) :
    Instr.descriptor (.incAbsx w) = some ⟨0xFE, .inc, .absx, 7, false, false, .f3 .incAbsx⟩ := rfl

end Sys2Proof
end

