-- ==== Sys2Proof/Tests/Slice0.lean ====
section
/-! SUPPORT. The model's own tests: words of the spec's encoding, the WellFormed smoke, one-step vectors of 95_test_vectors.md (expected
results are the spec's), reset and faults, and a witness for each obligation that has hypotheses. -/

namespace Sys2Proof.Tests

open Sys2Proof.Machine

/-- A running machine on a flat memory, with these registers and these listed cells. -/
def cpu (a x y sp : Byte) (pc : Word) (p : Flags) (cells : Memory) : State :=
  { State.reset with a := a, x := x, y := y, sp := sp, pc := pc, p := p, mem := cells, bus := flatMap }

/-- The call returned this cycle count and a state that passes the test. -/
def returns (r : RunResult) (cycles : Nat) (ok : State → Bool) : Bool :=
  match r with
  | .returned t n => n == cycles && ok t
  | .aborted _ _ => false
  | .noStep _ => false

/-! Well-formedness: a mnemonic in a mode R86 leaves empty is refused. -/

-- R86: no immediate store, no LDX zero-page,X, no accumulator INC, no JMP zero-page, no branch but relative, no implied LDA.
theorem test_wellFormed_refuses : (AsmLine.wellFormed ⟨.sta, .imm 0x10⟩ || AsmLine.wellFormed ⟨.ldx, .mem (.zpx 0x10)⟩ ||
    AsmLine.wellFormed ⟨.inc, .acc⟩ || AsmLine.wellFormed ⟨.jmp, .mem (.zp 0x10)⟩ || AsmLine.wellFormed ⟨.bne, .mem (.abs 0x8000)⟩ ||
    AsmLine.wellFormed ⟨.lda, .imp⟩ || AsmLine.wellFormed ⟨.clc, .acc⟩ || AsmLine.wellFormed ⟨.ora, .mem (.ind 0x02FF)⟩ ||
    AsmLine.wellFormed ⟨.bit, .mem (.indx 0x10)⟩ || AsmLine.wellFormed ⟨.cpx, .mem (.indy 0x10)⟩ ||
    AsmLine.wellFormed ⟨.jsr, .mem (.rel 0x10)⟩ || AsmLine.wellFormed ⟨.lda, .mem (.zpy 0x10)⟩ ||
    AsmLine.wellFormed ⟨.stx, .mem (.absy 0x10)⟩ || AsmLine.wellFormed ⟨.sty, .mem (.absx 0x10)⟩) = false := by decide

theorem test_wellFormed_accepts : (AsmLine.wellFormed ⟨.sta, .mem (.absx 0x10A5)⟩ && AsmLine.wellFormed ⟨.jmp, .mem (.ind 0x02FF)⟩ &&
    AsmLine.wellFormed ⟨.lsr, .acc⟩ && AsmLine.wellFormed ⟨.bne, .mem (.rel 0xFC)⟩) = true := by decide

/-! Decoding. -/

-- Row 0x of R87, operand bytes in the order of R82.
theorem test_decode_row_0 :
    decode [0x00] = .ok (.brk, []) ∧
    decode [0x01, 0x81] = .ok (.oraIndx 0x81, []) ∧
    decode [0x05, 0x81] = .ok (.oraZp 0x81, []) ∧
    decode [0x06, 0x81] = .ok (.aslZp 0x81, []) ∧
    decode [0x08] = .ok (.php, []) ∧
    decode [0x09, 0x81] = .ok (.oraImm 0x81, []) ∧
    decode [0x0A] = .ok (.aslAcc, []) ∧
    decode [0x0D, 0x34, 0x92] = .ok (.oraAbs 0x9234, []) ∧
    decode [0x0E, 0x34, 0x92] = .ok (.aslAbs 0x9234, []) :=
  ⟨rfl, rfl, rfl, rfl, rfl, rfl, rfl, rfl, rfl⟩

-- Row 1x of R87, operand bytes in the order of R82.
theorem test_decode_row_1 :
    decode [0x10, 0x81] = .ok (.bpl 0x81, []) ∧
    decode [0x11, 0x81] = .ok (.oraIndy 0x81, []) ∧
    decode [0x15, 0x81] = .ok (.oraZpx 0x81, []) ∧
    decode [0x16, 0x81] = .ok (.aslZpx 0x81, []) ∧
    decode [0x18] = .ok (.clc, []) ∧
    decode [0x19, 0x34, 0x92] = .ok (.oraAbsy 0x9234, []) ∧
    decode [0x1D, 0x34, 0x92] = .ok (.oraAbsx 0x9234, []) ∧
    decode [0x1E, 0x34, 0x92] = .ok (.aslAbsx 0x9234, []) :=
  ⟨rfl, rfl, rfl, rfl, rfl, rfl, rfl, rfl⟩

-- Row 2x of R87, operand bytes in the order of R82.
theorem test_decode_row_2 :
    decode [0x20, 0x34, 0x92] = .ok (.jsr 0x9234, []) ∧
    decode [0x21, 0x81] = .ok (.andIndx 0x81, []) ∧
    decode [0x24, 0x81] = .ok (.bitZp 0x81, []) ∧
    decode [0x25, 0x81] = .ok (.andZp 0x81, []) ∧
    decode [0x26, 0x81] = .ok (.rolZp 0x81, []) ∧
    decode [0x28] = .ok (.plp, []) ∧
    decode [0x29, 0x81] = .ok (.andImm 0x81, []) ∧
    decode [0x2A] = .ok (.rolAcc, []) ∧
    decode [0x2C, 0x34, 0x92] = .ok (.bitAbs 0x9234, []) ∧
    decode [0x2D, 0x34, 0x92] = .ok (.andAbs 0x9234, []) ∧
    decode [0x2E, 0x34, 0x92] = .ok (.rolAbs 0x9234, []) :=
  ⟨rfl, rfl, rfl, rfl, rfl, rfl, rfl, rfl, rfl, rfl, rfl⟩

-- Row 3x of R87, operand bytes in the order of R82.
theorem test_decode_row_3 :
    decode [0x30, 0x81] = .ok (.bmi 0x81, []) ∧
    decode [0x31, 0x81] = .ok (.andIndy 0x81, []) ∧
    decode [0x35, 0x81] = .ok (.andZpx 0x81, []) ∧
    decode [0x36, 0x81] = .ok (.rolZpx 0x81, []) ∧
    decode [0x38] = .ok (.sec, []) ∧
    decode [0x39, 0x34, 0x92] = .ok (.andAbsy 0x9234, []) ∧
    decode [0x3D, 0x34, 0x92] = .ok (.andAbsx 0x9234, []) ∧
    decode [0x3E, 0x34, 0x92] = .ok (.rolAbsx 0x9234, []) :=
  ⟨rfl, rfl, rfl, rfl, rfl, rfl, rfl, rfl⟩

-- Row 4x of R87, operand bytes in the order of R82.
theorem test_decode_row_4 :
    decode [0x40] = .ok (.rti, []) ∧
    decode [0x41, 0x81] = .ok (.eorIndx 0x81, []) ∧
    decode [0x45, 0x81] = .ok (.eorZp 0x81, []) ∧
    decode [0x46, 0x81] = .ok (.lsrZp 0x81, []) ∧
    decode [0x48] = .ok (.pha, []) ∧
    decode [0x49, 0x81] = .ok (.eorImm 0x81, []) ∧
    decode [0x4A] = .ok (.lsrAcc, []) ∧
    decode [0x4C, 0x34, 0x92] = .ok (.jmpAbs 0x9234, []) ∧
    decode [0x4D, 0x34, 0x92] = .ok (.eorAbs 0x9234, []) ∧
    decode [0x4E, 0x34, 0x92] = .ok (.lsrAbs 0x9234, []) :=
  ⟨rfl, rfl, rfl, rfl, rfl, rfl, rfl, rfl, rfl, rfl⟩

-- Row 5x of R87, operand bytes in the order of R82.
theorem test_decode_row_5 :
    decode [0x50, 0x81] = .ok (.bvc 0x81, []) ∧
    decode [0x51, 0x81] = .ok (.eorIndy 0x81, []) ∧
    decode [0x55, 0x81] = .ok (.eorZpx 0x81, []) ∧
    decode [0x56, 0x81] = .ok (.lsrZpx 0x81, []) ∧
    decode [0x58] = .ok (.cli, []) ∧
    decode [0x59, 0x34, 0x92] = .ok (.eorAbsy 0x9234, []) ∧
    decode [0x5D, 0x34, 0x92] = .ok (.eorAbsx 0x9234, []) ∧
    decode [0x5E, 0x34, 0x92] = .ok (.lsrAbsx 0x9234, []) :=
  ⟨rfl, rfl, rfl, rfl, rfl, rfl, rfl, rfl⟩

-- Row 6x of R87, operand bytes in the order of R82.
theorem test_decode_row_6 :
    decode [0x60] = .ok (.rts, []) ∧
    decode [0x61, 0x81] = .ok (.adcIndx 0x81, []) ∧
    decode [0x65, 0x81] = .ok (.adcZp 0x81, []) ∧
    decode [0x66, 0x81] = .ok (.rorZp 0x81, []) ∧
    decode [0x68] = .ok (.pla, []) ∧
    decode [0x69, 0x81] = .ok (.adcImm 0x81, []) ∧
    decode [0x6A] = .ok (.rorAcc, []) ∧
    decode [0x6C, 0x34, 0x92] = .ok (.jmpInd 0x9234, []) ∧
    decode [0x6D, 0x34, 0x92] = .ok (.adcAbs 0x9234, []) ∧
    decode [0x6E, 0x34, 0x92] = .ok (.rorAbs 0x9234, []) :=
  ⟨rfl, rfl, rfl, rfl, rfl, rfl, rfl, rfl, rfl, rfl⟩

-- Row 7x of R87, operand bytes in the order of R82.
theorem test_decode_row_7 :
    decode [0x70, 0x81] = .ok (.bvs 0x81, []) ∧
    decode [0x71, 0x81] = .ok (.adcIndy 0x81, []) ∧
    decode [0x75, 0x81] = .ok (.adcZpx 0x81, []) ∧
    decode [0x76, 0x81] = .ok (.rorZpx 0x81, []) ∧
    decode [0x78] = .ok (.sei, []) ∧
    decode [0x79, 0x34, 0x92] = .ok (.adcAbsy 0x9234, []) ∧
    decode [0x7D, 0x34, 0x92] = .ok (.adcAbsx 0x9234, []) ∧
    decode [0x7E, 0x34, 0x92] = .ok (.rorAbsx 0x9234, []) :=
  ⟨rfl, rfl, rfl, rfl, rfl, rfl, rfl, rfl⟩

-- Row 8x of R87, operand bytes in the order of R82.
theorem test_decode_row_8 :
    decode [0x81, 0x81] = .ok (.staIndx 0x81, []) ∧
    decode [0x84, 0x81] = .ok (.styZp 0x81, []) ∧
    decode [0x85, 0x81] = .ok (.staZp 0x81, []) ∧
    decode [0x86, 0x81] = .ok (.stxZp 0x81, []) ∧
    decode [0x88] = .ok (.dey, []) ∧
    decode [0x8A] = .ok (.txa, []) ∧
    decode [0x8C, 0x34, 0x92] = .ok (.styAbs 0x9234, []) ∧
    decode [0x8D, 0x34, 0x92] = .ok (.staAbs 0x9234, []) ∧
    decode [0x8E, 0x34, 0x92] = .ok (.stxAbs 0x9234, []) :=
  ⟨rfl, rfl, rfl, rfl, rfl, rfl, rfl, rfl, rfl⟩

-- Row 9x of R87, operand bytes in the order of R82.
theorem test_decode_row_9 :
    decode [0x90, 0x81] = .ok (.bcc 0x81, []) ∧
    decode [0x91, 0x81] = .ok (.staIndy 0x81, []) ∧
    decode [0x94, 0x81] = .ok (.styZpx 0x81, []) ∧
    decode [0x95, 0x81] = .ok (.staZpx 0x81, []) ∧
    decode [0x96, 0x81] = .ok (.stxZpy 0x81, []) ∧
    decode [0x98] = .ok (.tya, []) ∧
    decode [0x99, 0x34, 0x92] = .ok (.staAbsy 0x9234, []) ∧
    decode [0x9A] = .ok (.txs, []) ∧
    decode [0x9D, 0x34, 0x92] = .ok (.staAbsx 0x9234, []) :=
  ⟨rfl, rfl, rfl, rfl, rfl, rfl, rfl, rfl, rfl⟩

-- Row Ax of R87, operand bytes in the order of R82.
theorem test_decode_row_a :
    decode [0xA0, 0x81] = .ok (.ldyImm 0x81, []) ∧
    decode [0xA1, 0x81] = .ok (.ldaIndx 0x81, []) ∧
    decode [0xA2, 0x81] = .ok (.ldxImm 0x81, []) ∧
    decode [0xA4, 0x81] = .ok (.ldyZp 0x81, []) ∧
    decode [0xA5, 0x81] = .ok (.ldaZp 0x81, []) ∧
    decode [0xA6, 0x81] = .ok (.ldxZp 0x81, []) ∧
    decode [0xA8] = .ok (.tay, []) ∧
    decode [0xA9, 0x81] = .ok (.ldaImm 0x81, []) ∧
    decode [0xAA] = .ok (.tax, []) ∧
    decode [0xAC, 0x34, 0x92] = .ok (.ldyAbs 0x9234, []) ∧
    decode [0xAD, 0x34, 0x92] = .ok (.ldaAbs 0x9234, []) ∧
    decode [0xAE, 0x34, 0x92] = .ok (.ldxAbs 0x9234, []) :=
  ⟨rfl, rfl, rfl, rfl, rfl, rfl, rfl, rfl, rfl, rfl, rfl, rfl⟩

-- Row Bx of R87, operand bytes in the order of R82.
theorem test_decode_row_b :
    decode [0xB0, 0x81] = .ok (.bcs 0x81, []) ∧
    decode [0xB1, 0x81] = .ok (.ldaIndy 0x81, []) ∧
    decode [0xB4, 0x81] = .ok (.ldyZpx 0x81, []) ∧
    decode [0xB5, 0x81] = .ok (.ldaZpx 0x81, []) ∧
    decode [0xB6, 0x81] = .ok (.ldxZpy 0x81, []) ∧
    decode [0xB8] = .ok (.clv, []) ∧
    decode [0xB9, 0x34, 0x92] = .ok (.ldaAbsy 0x9234, []) ∧
    decode [0xBA] = .ok (.tsx, []) ∧
    decode [0xBC, 0x34, 0x92] = .ok (.ldyAbsx 0x9234, []) ∧
    decode [0xBD, 0x34, 0x92] = .ok (.ldaAbsx 0x9234, []) ∧
    decode [0xBE, 0x34, 0x92] = .ok (.ldxAbsy 0x9234, []) :=
  ⟨rfl, rfl, rfl, rfl, rfl, rfl, rfl, rfl, rfl, rfl, rfl⟩

-- Row Cx of R87, operand bytes in the order of R82.
theorem test_decode_row_c :
    decode [0xC0, 0x81] = .ok (.cpyImm 0x81, []) ∧
    decode [0xC1, 0x81] = .ok (.cmpIndx 0x81, []) ∧
    decode [0xC4, 0x81] = .ok (.cpyZp 0x81, []) ∧
    decode [0xC5, 0x81] = .ok (.cmpZp 0x81, []) ∧
    decode [0xC6, 0x81] = .ok (.decZp 0x81, []) ∧
    decode [0xC8] = .ok (.iny, []) ∧
    decode [0xC9, 0x81] = .ok (.cmpImm 0x81, []) ∧
    decode [0xCA] = .ok (.dex, []) ∧
    decode [0xCC, 0x34, 0x92] = .ok (.cpyAbs 0x9234, []) ∧
    decode [0xCD, 0x34, 0x92] = .ok (.cmpAbs 0x9234, []) ∧
    decode [0xCE, 0x34, 0x92] = .ok (.decAbs 0x9234, []) :=
  ⟨rfl, rfl, rfl, rfl, rfl, rfl, rfl, rfl, rfl, rfl, rfl⟩

-- Row Dx of R87, operand bytes in the order of R82.
theorem test_decode_row_d :
    decode [0xD0, 0x81] = .ok (.bne 0x81, []) ∧
    decode [0xD1, 0x81] = .ok (.cmpIndy 0x81, []) ∧
    decode [0xD5, 0x81] = .ok (.cmpZpx 0x81, []) ∧
    decode [0xD6, 0x81] = .ok (.decZpx 0x81, []) ∧
    decode [0xD8] = .ok (.cld, []) ∧
    decode [0xD9, 0x34, 0x92] = .ok (.cmpAbsy 0x9234, []) ∧
    decode [0xDD, 0x34, 0x92] = .ok (.cmpAbsx 0x9234, []) ∧
    decode [0xDE, 0x34, 0x92] = .ok (.decAbsx 0x9234, []) :=
  ⟨rfl, rfl, rfl, rfl, rfl, rfl, rfl, rfl⟩

-- Row Ex of R87, operand bytes in the order of R82.
theorem test_decode_row_e :
    decode [0xE0, 0x81] = .ok (.cpxImm 0x81, []) ∧
    decode [0xE1, 0x81] = .ok (.sbcIndx 0x81, []) ∧
    decode [0xE4, 0x81] = .ok (.cpxZp 0x81, []) ∧
    decode [0xE5, 0x81] = .ok (.sbcZp 0x81, []) ∧
    decode [0xE6, 0x81] = .ok (.incZp 0x81, []) ∧
    decode [0xE8] = .ok (.inx, []) ∧
    decode [0xE9, 0x81] = .ok (.sbcImm 0x81, []) ∧
    decode [0xEA] = .ok (.nop, []) ∧
    decode [0xEC, 0x34, 0x92] = .ok (.cpxAbs 0x9234, []) ∧
    decode [0xED, 0x34, 0x92] = .ok (.sbcAbs 0x9234, []) ∧
    decode [0xEE, 0x34, 0x92] = .ok (.incAbs 0x9234, []) :=
  ⟨rfl, rfl, rfl, rfl, rfl, rfl, rfl, rfl, rfl, rfl, rfl⟩

-- Row Fx of R87, operand bytes in the order of R82.
theorem test_decode_row_f :
    decode [0xF0, 0x81] = .ok (.beq 0x81, []) ∧
    decode [0xF1, 0x81] = .ok (.sbcIndy 0x81, []) ∧
    decode [0xF5, 0x81] = .ok (.sbcZpx 0x81, []) ∧
    decode [0xF6, 0x81] = .ok (.incZpx 0x81, []) ∧
    decode [0xF8] = .ok (.sed, []) ∧
    decode [0xF9, 0x34, 0x92] = .ok (.sbcAbsy 0x9234, []) ∧
    decode [0xFD, 0x34, 0x92] = .ok (.sbcAbsx 0x9234, []) ∧
    decode [0xFE, 0x34, 0x92] = .ok (.incAbsx 0x9234, []) :=
  ⟨rfl, rfl, rfl, rfl, rfl, rfl, rfl, rfl⟩

-- R88, R240: three illegal bytes; R81: an instruction cut short; no bytes.
theorem test_decode_rejects : decode [0x02] = .error (.illegalOpcode 0x02) ∧ decode [0x80, 0x00] = .error (.illegalOpcode 0x80) ∧
    decode [0xFF, 0x00, 0x10] = .error (.illegalOpcode 0xFF) ∧ decode [0xA9] = .error (.truncated 0xA9) ∧
    decode [0x4C, 0x00] = .error (.truncated 0x4C) ∧ decode [] = .error .empty := by decide

-- The numbering of opcode_table.json: the first byte is bits 7 to 0, the second bits 15 to 8, the third bits 23 to 16.
theorem test_table_word : decodeTableWord 24 0x0002AD = some (.ldaAbs 0x0002) ∧ decodeTableWord 8 0xFFEA = some .nop ∧
    decodeTableWord 8 0x02 = none := by decide

-- withFetchWord: the next step runs the placed instruction (LDA #$7F, then JMP $8000).
theorem test_fetch_word_immediate :
    (runCall (State.reset.withFetchWord 16 0x7FA9) == .returned { State.reset.withFetchWord 16 0x7FA9 with a := 0x7F, pc := 0x0002 } 2) = true := by
  decide

theorem test_fetch_word_jump :
    (runCall (State.reset.withFetchWord 24 0x80004C) == .returned { State.reset.withFetchWord 24 0x80004C with pc := 0x8000 } 3) = true := by
  decide

/-! Reset and faults. -/

-- V-RST-1 (R260, R262, R44), on the flat memory.
theorem test_rst_1 : resetCall { State.powerOn with bus := flatMap, mem := [(0xFFFD, 0x80)] } =
    .ok () { State.reset with pc := 0x8000, bus := flatMap, mem := [(0xFFFD, 0x80)] } := by decide

-- V-RST-2 (R260, R261): a warm reset keeps A, X, Y, the other flags and the pending bits.
theorem test_rst_2 : resetCall { cpu 0x12 0x34 0x56 0x80 0x1234 ⟨true, true, true, false, true, true⟩ [(0xFFFC, 0x34), (0xFFFD, 0xC0)] with
      irqPending := true } =
    .ok () { cpu 0x12 0x34 0x56 0xFD 0xC034 ⟨true, true, true, true, true, true⟩ [(0xFFFC, 0x34), (0xFFFD, 0xC0)] with
      irqPending := true } := by decide

-- V-RST-4 (R220): no step before the first reset.
theorem test_rst_4 : runCall State.powerOn = .noStep .poweredOff := by decide

-- R44, R260: the state this model calls reset is what `reset()` makes of the machine as created.
theorem test_reset_is_reset : resetCall State.powerOn = .ok () State.reset := by decide

-- V-FLT-1 (R240, R88): PC stays at the byte, the machine is Faulted.
theorem test_flt_1 : runCall (cpu 0x12 0x00 0x00 0xFD 0x8000 ⟨true, false, false, false, false, false⟩ [(0x8000, 0x02)]) =
    .aborted (.illegalOpcode 0x02 0x8000)
      { cpu 0x12 0x00 0x00 0xFD 0x8000 ⟨true, false, false, false, false, false⟩ [(0x8000, 0x02)] with run := .faulted } := by decide

-- V-FLT-2 (R240, R88).
theorem test_flt_2 : step (cpu 0x00 0x00 0x00 0xFD 0x0300 ⟨false, false, false, false, false, false⟩ [(0x0300, 0xFF), (0x0302, 0x10)]) =
    .fault (.illegalOpcode 0xFF 0x0300) := rfl

/-! One step each: vectors of 95_test_vectors.md. -/

-- V-ADC-2 (R131): ADC #$50.
theorem test_adc_adc_2 :
    returns (runCall (cpu 0x50 0x00 0x00 0xFD 0x8000 ⟨false, false, false, false, false, false⟩ [(0x8000, 0x69), (0x8001, 0x50)])) 2
      (fun t => t.a == 0xA0 && t.pc == 0x8002 && t.p == ⟨true, true, false, false, false, false⟩) = true := by decide

-- V-DADC-1 (R132): ADC #$01.
theorem test_adc_dadc_1 :
    returns (runCall (cpu 0x09 0x00 0x00 0xFD 0x8000 ⟨false, false, true, false, false, false⟩ [(0x8000, 0x69), (0x8001, 0x01)])) 2
      (fun t => t.a == 0x10 && t.pc == 0x8002 && t.p == ⟨false, false, true, false, false, false⟩) = true := by decide

-- V-LOG-1 (R135): AND #$0F.
theorem test_and_log_1 :
    returns (runCall (cpu 0xF0 0x00 0x00 0xFD 0x8000 ⟨false, true, false, false, false, true⟩ [(0x8000, 0x29), (0x8001, 0x0F)])) 2
      (fun t => t.a == 0x00 && t.pc == 0x8002 && t.p == ⟨false, true, false, false, true, true⟩) = true := by decide

-- V-LOG-7 (R135 R110): AND ($20),Y.
theorem test_and_log_7 :
    returns (runCall (cpu 0xFF 0x00 0x10 0xFD 0x8000 ⟨false, false, false, false, false, false⟩ [(0x0020, 0xF0), (0x0021, 0x12), (0x1300, 0x3C), (0x8000, 0x31), (0x8001, 0x20)])) 6
      (fun t => t.a == 0x3C && t.pc == 0x8002 && t.p == ⟨false, false, false, false, false, false⟩) = true := by decide

-- V-SH-1 (R141): ASL A.
theorem test_asl_sh_1 :
    returns (runCall (cpu 0x80 0x00 0x00 0xFD 0x8000 ⟨false, false, false, false, false, false⟩ [(0x8000, 0x0A)])) 2
      (fun t => t.a == 0x00 && t.pc == 0x8001 && t.p == ⟨false, false, false, false, true, true⟩) = true := by decide

-- V-SH-14 (R141): ASL $0200,X.
theorem test_asl_sh_14 :
    returns (runCall (cpu 0x00 0x01 0x00 0xFD 0x8000 ⟨false, false, false, false, false, true⟩ [(0x8000, 0x1E), (0x8002, 0x02)])) 7
      (fun t => t.pc == 0x8003 && t.p == ⟨false, false, false, false, true, false⟩ && t.mem.read 0x0201 == 0x00) = true := by decide

-- V-BR-4 (R156 R112): BCC $8104.
theorem test_bcc_br_4 :
    returns (runCall (cpu 0x00 0x00 0x00 0xFD 0x80FD ⟨false, false, false, false, false, false⟩ [(0x80FD, 0x90), (0x80FE, 0x05)])) 4
      (fun t => t.pc == 0x8104 && t.p == ⟨false, false, false, false, false, false⟩) = true := by decide

-- V-BR-5 (R156): BCC $8104.
theorem test_bcc_br_5 :
    returns (runCall (cpu 0x00 0x00 0x00 0xFD 0x80FD ⟨false, false, false, false, false, true⟩ [(0x80FD, 0x90), (0x80FE, 0x05)])) 2
      (fun t => t.pc == 0x80FF && t.p == ⟨false, false, false, false, false, true⟩) = true := by decide

-- V-BR-7 (R157): BCS $8081.
theorem test_bcs_br_7 :
    returns (runCall (cpu 0x00 0x00 0x00 0xFD 0x8000 ⟨false, false, false, false, false, true⟩ [(0x8000, 0xB0), (0x8001, 0x7F)])) 3
      (fun t => t.pc == 0x8081 && t.p == ⟨false, false, false, false, false, true⟩) = true := by decide

-- V-BR-14 (R157): BCS $8012.
theorem test_bcs_br_14 :
    returns (runCall (cpu 0x00 0x00 0x00 0xFD 0x8000 ⟨false, false, false, false, false, false⟩ [(0x8000, 0xB0), (0x8001, 0x10)])) 2
      (fun t => t.pc == 0x8002 && t.p == ⟨false, false, false, false, false, false⟩) = true := by decide

-- V-BR-3 (R158): BEQ $8000.
theorem test_beq_br_3 :
    returns (runCall (cpu 0x00 0x00 0x00 0xFD 0x8000 ⟨false, false, false, false, true, false⟩ [(0x8000, 0xF0), (0x8001, 0xFE)])) 3
      (fun t => t.pc == 0x8000 && t.p == ⟨false, false, false, false, true, false⟩) = true := by decide

-- V-BR-15 (R158): BEQ $8012.
theorem test_beq_br_15 :
    returns (runCall (cpu 0x00 0x00 0x00 0xFD 0x8000 ⟨false, false, false, false, false, false⟩ [(0x8000, 0xF0), (0x8001, 0x10)])) 2
      (fun t => t.pc == 0x8002 && t.p == ⟨false, false, false, false, false, false⟩) = true := by decide

-- V-LOG-8 (R138): BIT $10.
theorem test_bit_log_8 :
    returns (runCall (cpu 0x01 0x00 0x00 0xFD 0x8000 ⟨false, false, false, false, false, false⟩ [(0x0010, 0xC0), (0x8000, 0x24), (0x8001, 0x10)])) 3
      (fun t => t.pc == 0x8002 && t.p == ⟨true, true, false, false, true, false⟩) = true := by decide

-- V-LOG-10 (R138): BIT $0200.
theorem test_bit_log_10 :
    returns (runCall (cpu 0x40 0x00 0x00 0xFD 0x8000 ⟨false, false, false, false, false, true⟩ [(0x0200, 0x40), (0x8000, 0x2C), (0x8002, 0x02)])) 4
      (fun t => t.pc == 0x8003 && t.p == ⟨false, true, false, false, false, true⟩) = true := by decide

-- V-BR-8 (R160): BMI $7F82.
theorem test_bmi_br_8 :
    returns (runCall (cpu 0x00 0x00 0x00 0xFD 0x8000 ⟨true, false, false, false, false, false⟩ [(0x8000, 0x30), (0x8001, 0x80)])) 4
      (fun t => t.pc == 0x7F82 && t.p == ⟨true, false, false, false, false, false⟩) = true := by decide

-- V-BR-9 (R160): BMI $7F82.
theorem test_bmi_br_9 :
    returns (runCall (cpu 0x00 0x00 0x00 0xFD 0x8000 ⟨false, false, false, false, false, false⟩ [(0x8000, 0x30), (0x8001, 0x80)])) 2
      (fun t => t.pc == 0x8002 && t.p == ⟨false, false, false, false, false, false⟩) = true := by decide

-- V-BR-1 (R159 R155): BNE $8007.
theorem test_bne_br_1 :
    returns (runCall (cpu 0x00 0x00 0x00 0xFD 0x8000 ⟨false, false, false, false, true, false⟩ [(0x8000, 0xD0), (0x8001, 0x05)])) 2
      (fun t => t.pc == 0x8002 && t.p == ⟨false, false, false, false, true, false⟩) = true := by decide

-- V-BR-19 (R159 R112): BNE $80FF.
theorem test_bne_br_19 :
    returns (runCall (cpu 0x00 0x00 0x00 0xFD 0x80FF ⟨false, false, false, false, false, false⟩ [(0x80FF, 0xD0), (0x8100, 0xFE)])) 4
      (fun t => t.pc == 0x80FF && t.p == ⟨false, false, false, false, false, false⟩) = true := by decide

-- V-BR-6 (R161 R112): BPL $7FFE.
theorem test_bpl_br_6 :
    returns (runCall (cpu 0x00 0x00 0x00 0xFD 0x8000 ⟨false, false, false, false, false, false⟩ [(0x8000, 0x10), (0x8001, 0xFC)])) 4
      (fun t => t.pc == 0x7FFE && t.p == ⟨false, false, false, false, false, false⟩) = true := by decide

-- V-BR-16 (R161): BPL $8012.
theorem test_bpl_br_16 :
    returns (runCall (cpu 0x00 0x00 0x00 0xFD 0x8000 ⟨true, false, false, false, false, false⟩ [(0x8000, 0x10), (0x8001, 0x10)])) 2
      (fun t => t.pc == 0x8002 && t.p == ⟨true, false, false, false, false, false⟩) = true := by decide

-- V-J-8 (R176): BRK.
theorem test_brk_j_8 :
    returns (runCall (cpu 0x00 0x00 0x00 0xFD 0x8000 ⟨true, false, true, false, false, true⟩ [(0x8001, 0xEA), (0xFFFE, 0x10), (0xFFFF, 0x90)])) 7
      (fun t => t.sp == 0xFA && t.pc == 0x9010 && t.p == ⟨true, false, true, true, false, true⟩ && t.mem.read 0x01FD == 0x80 && t.mem.read 0x01FC == 0x02 && t.mem.read 0x01FB == 0xB9) = true := by decide

-- V-J-9 (R176): BRK.
theorem test_brk_j_9 :
    returns (runCall (cpu 0x00 0x00 0x00 0x01 0xFFFF ⟨false, false, false, true, false, false⟩ [(0xFFFE, 0x10)])) 7
      (fun t => t.sp == 0xFE && t.pc == 0x0010 && t.p == ⟨false, false, false, true, false, false⟩ && t.mem.read 0x0101 == 0x00 && t.mem.read 0x0100 == 0x01 && t.mem.read 0x01FF == 0x34) = true := by decide

-- V-BR-10 (R162): BVC $8012.
theorem test_bvc_br_10 :
    returns (runCall (cpu 0x00 0x00 0x00 0xFD 0x8000 ⟨false, false, false, false, false, false⟩ [(0x8000, 0x50), (0x8001, 0x10)])) 3
      (fun t => t.pc == 0x8012 && t.p == ⟨false, false, false, false, false, false⟩) = true := by decide

-- V-BR-11 (R162): BVC $8012.
theorem test_bvc_br_11 :
    returns (runCall (cpu 0x00 0x00 0x00 0xFD 0x8000 ⟨false, true, false, false, false, false⟩ [(0x8000, 0x50), (0x8001, 0x10)])) 2
      (fun t => t.pc == 0x8002 && t.p == ⟨false, true, false, false, false, false⟩) = true := by decide

-- V-BR-12 (R163): BVS $8012.
theorem test_bvs_br_12 :
    returns (runCall (cpu 0x00 0x00 0x00 0xFD 0x8000 ⟨false, true, false, false, false, false⟩ [(0x8000, 0x70), (0x8001, 0x10)])) 3
      (fun t => t.pc == 0x8012 && t.p == ⟨false, true, false, false, false, false⟩) = true := by decide

-- V-BR-13 (R163): BVS $8012.
theorem test_bvs_br_13 :
    returns (runCall (cpu 0x00 0x00 0x00 0xFD 0x8000 ⟨false, false, false, false, false, false⟩ [(0x8000, 0x70), (0x8001, 0x10)])) 2
      (fun t => t.pc == 0x8002 && t.p == ⟨false, false, false, false, false, false⟩) = true := by decide

-- V-FL-1 (R190): CLC.
theorem test_clc_fl_1 :
    returns (runCall (cpu 0x00 0x00 0x00 0xFD 0x8000 ⟨true, true, true, true, true, true⟩ [(0x8000, 0x18)])) 2
      (fun t => t.pc == 0x8001 && t.p == ⟨true, true, true, true, true, false⟩) = true := by decide

-- V-FL-5 (R194): CLD.
theorem test_cld_fl_5 :
    returns (runCall (cpu 0x00 0x00 0x00 0xFD 0x8000 ⟨true, true, true, true, true, true⟩ [(0x8000, 0xD8)])) 2
      (fun t => t.pc == 0x8001 && t.p == ⟨true, true, false, true, true, true⟩) = true := by decide

-- V-FL-3 (R192): CLI.
theorem test_cli_fl_3 :
    returns (runCall (cpu 0x00 0x00 0x00 0xFD 0x8000 ⟨true, true, true, true, true, true⟩ [(0x8000, 0x58)])) 2
      (fun t => t.pc == 0x8001 && t.p == ⟨true, true, true, false, true, true⟩) = true := by decide

-- V-FL-7 (R196): CLV.
theorem test_clv_fl_7 :
    returns (runCall (cpu 0x00 0x00 0x00 0xFD 0x8000 ⟨true, true, true, true, true, true⟩ [(0x8000, 0xB8)])) 2
      (fun t => t.pc == 0x8001 && t.p == ⟨true, false, true, true, true, true⟩) = true := by decide

-- V-CMP-1 (R150 R151): CMP #$40.
theorem test_cmp_cmp_1 :
    returns (runCall (cpu 0x40 0x00 0x00 0xFD 0x8000 ⟨false, false, false, false, false, false⟩ [(0x8000, 0xC9), (0x8001, 0x40)])) 2
      (fun t => t.pc == 0x8002 && t.p == ⟨false, false, false, false, true, true⟩) = true := by decide

-- V-CMP-8 (R151 R106): CMP $12F0,X.
theorem test_cmp_cmp_8 :
    returns (runCall (cpu 0x10 0x10 0x00 0xFD 0x8000 ⟨false, false, false, false, false, false⟩ [(0x1300, 0x10), (0x8000, 0xDD), (0x8001, 0xF0), (0x8002, 0x12)])) 5
      (fun t => t.pc == 0x8003 && t.p == ⟨false, false, false, false, true, true⟩) = true := by decide

-- V-CMP-9 (R152): CPX #$10.
theorem test_cpx_cmp_9 :
    returns (runCall (cpu 0x00 0x0F 0x00 0xFD 0x8000 ⟨false, false, false, false, false, false⟩ [(0x8000, 0xE0), (0x8001, 0x10)])) 2
      (fun t => t.pc == 0x8002 && t.p == ⟨true, false, false, false, false, false⟩) = true := by decide

-- V-CMP-10 (R152): CPX $10.
theorem test_cpx_cmp_10 :
    returns (runCall (cpu 0x00 0xFF 0x00 0xFD 0x8000 ⟨false, false, false, false, false, false⟩ [(0x0010, 0x01), (0x8000, 0xE4), (0x8001, 0x10)])) 3
      (fun t => t.pc == 0x8002 && t.p == ⟨true, false, false, false, false, true⟩) = true := by decide

-- V-CMP-11 (R153): CPY #$00.
theorem test_cpy_cmp_11 :
    returns (runCall (cpu 0x00 0x00 0x00 0xFD 0x8000 ⟨false, false, false, false, false, false⟩ [(0x8000, 0xC0)])) 2
      (fun t => t.pc == 0x8002 && t.p == ⟨false, false, false, false, true, true⟩) = true := by decide

-- V-CMP-12 (R153): CPY $0200.
theorem test_cpy_cmp_12 :
    returns (runCall (cpu 0x00 0x00 0x01 0xFD 0x8000 ⟨false, false, false, false, false, false⟩ [(0x0200, 0x02), (0x8000, 0xCC), (0x8002, 0x02)])) 4
      (fun t => t.pc == 0x8003 && t.p == ⟨true, false, false, false, false, false⟩) = true := by decide

-- V-TR-17 (R211 R103): DEC $F0,X.
theorem test_dec_tr_17 :
    returns (runCall (cpu 0x00 0x10 0x00 0xFD 0x8000 ⟨false, false, false, false, false, false⟩ [(0x8000, 0xD6), (0x8001, 0xF0)])) 6
      (fun t => t.pc == 0x8002 && t.p == ⟨true, false, false, false, false, false⟩ && t.mem.read 0x0000 == 0xFF) = true := by decide

-- V-TR-18 (R211): DEC $0200.
theorem test_dec_tr_18 :
    returns (runCall (cpu 0x00 0x00 0x00 0xFD 0x8000 ⟨false, false, false, false, false, false⟩ [(0x0200, 0x01), (0x8000, 0xCE), (0x8002, 0x02)])) 6
      (fun t => t.pc == 0x8003 && t.p == ⟨false, false, false, false, true, false⟩ && t.mem.read 0x0200 == 0x00) = true := by decide

-- V-TR-12 (R208): DEX.
theorem test_dex_tr_12 :
    returns (runCall (cpu 0x00 0x00 0x00 0xFD 0x8000 ⟨false, false, false, false, false, false⟩ [(0x8000, 0xCA)])) 2
      (fun t => t.x == 0xFF && t.pc == 0x8001 && t.p == ⟨true, false, false, false, false, false⟩) = true := by decide

-- V-TR-13 (R208): DEX.
theorem test_dex_tr_13 :
    returns (runCall (cpu 0x00 0x01 0x00 0xFD 0x8000 ⟨false, false, false, false, false, false⟩ [(0x8000, 0xCA)])) 2
      (fun t => t.x == 0x00 && t.pc == 0x8001 && t.p == ⟨false, false, false, false, true, false⟩) = true := by decide

-- V-TR-14 (R209): DEY.
theorem test_dey_tr_14 :
    returns (runCall (cpu 0x00 0x00 0x80 0xFD 0x8000 ⟨false, false, false, false, false, false⟩ [(0x8000, 0x88)])) 2
      (fun t => t.y == 0x7F && t.pc == 0x8001 && t.p == ⟨false, false, false, false, false, false⟩) = true := by decide

-- V-LOG-5 (R137): EOR #$FF.
theorem test_eor_log_5 :
    returns (runCall (cpu 0xFF 0x00 0x00 0xFD 0x8000 ⟨false, false, false, false, false, false⟩ [(0x8000, 0x49), (0x8001, 0xFF)])) 2
      (fun t => t.a == 0x00 && t.pc == 0x8002 && t.p == ⟨false, false, false, false, true, false⟩) = true := by decide

-- V-LOG-6 (R137): EOR #$F0.
theorem test_eor_log_6 :
    returns (runCall (cpu 0x0F 0x00 0x00 0xFD 0x8000 ⟨false, false, false, false, false, false⟩ [(0x8000, 0x49), (0x8001, 0xF0)])) 2
      (fun t => t.a == 0xFF && t.pc == 0x8002 && t.p == ⟨true, false, false, false, false, false⟩) = true := by decide

-- V-TR-15 (R210): INC $10.
theorem test_inc_tr_15 :
    returns (runCall (cpu 0x09 0x00 0x00 0xFD 0x8000 ⟨false, false, false, false, false, false⟩ [(0x0010, 0xFF), (0x8000, 0xE6), (0x8001, 0x10)])) 5
      (fun t => t.pc == 0x8002 && t.p == ⟨false, false, false, false, true, false⟩ && t.mem.read 0x0010 == 0x00) = true := by decide

-- V-TR-16 (R210 R106): INC $02F0,X.
theorem test_inc_tr_16 :
    returns (runCall (cpu 0x00 0x10 0x00 0xFD 0x8000 ⟨false, false, false, false, false, false⟩ [(0x0300, 0x7F), (0x8000, 0xFE), (0x8001, 0xF0), (0x8002, 0x02)])) 7
      (fun t => t.pc == 0x8003 && t.p == ⟨true, false, false, false, false, false⟩ && t.mem.read 0x0300 == 0x80) = true := by decide

-- V-TR-9 (R206): INX.
theorem test_inx_tr_9 :
    returns (runCall (cpu 0x00 0xFF 0x00 0xFD 0x8000 ⟨false, false, false, false, false, false⟩ [(0x8000, 0xE8)])) 2
      (fun t => t.x == 0x00 && t.pc == 0x8001 && t.p == ⟨false, false, false, false, true, false⟩) = true := by decide

-- V-TR-10 (R206): INX.
theorem test_inx_tr_10 :
    returns (runCall (cpu 0x00 0x7F 0x00 0xFD 0x8000 ⟨false, false, false, false, false, false⟩ [(0x8000, 0xE8)])) 2
      (fun t => t.x == 0x80 && t.pc == 0x8001 && t.p == ⟨true, false, false, false, false, false⟩) = true := by decide

-- V-TR-11 (R207): INY.
theorem test_iny_tr_11 :
    returns (runCall (cpu 0x00 0x00 0xFF 0xFD 0x8000 ⟨false, false, false, false, false, false⟩ [(0x8000, 0xC8)])) 2
      (fun t => t.y == 0x00 && t.pc == 0x8001 && t.p == ⟨false, false, false, false, true, false⟩) = true := by decide

-- V-J-1 (R171): JMP $1234.
theorem test_jmp_j_1 :
    returns (runCall (cpu 0x00 0x00 0x00 0xFD 0x8000 ⟨true, false, false, false, false, true⟩ [(0x8000, 0x4C), (0x8001, 0x34), (0x8002, 0x12)])) 3
      (fun t => t.pc == 0x1234 && t.p == ⟨true, false, false, false, false, true⟩) = true := by decide

-- V-J-3 (R172 R108): JMP ($02FF).
theorem test_jmp_j_3 :
    returns (runCall (cpu 0x00 0x00 0x00 0xFD 0x8000 ⟨false, false, false, false, false, false⟩ [(0x0200, 0x56), (0x02FF, 0x78), (0x0300, 0x99), (0x8000, 0x6C), (0x8001, 0xFF), (0x8002, 0x02)])) 5
      (fun t => t.pc == 0x5678 && t.p == ⟨false, false, false, false, false, false⟩) = true := by decide

-- V-J-4 (R173): JSR $9000.
theorem test_jsr_j_4 :
    returns (runCall (cpu 0x00 0x00 0x00 0xFD 0x8000 ⟨false, false, false, false, false, false⟩ [(0x8000, 0x20), (0x8002, 0x90)])) 6
      (fun t => t.sp == 0xFB && t.pc == 0x9000 && t.p == ⟨false, false, false, false, false, false⟩ && t.mem.read 0x01FD == 0x80 && t.mem.read 0x01FC == 0x02) = true := by decide

-- V-J-5 (R173 R62): JSR $9000.
theorem test_jsr_j_5 :
    returns (runCall (cpu 0x00 0x00 0x00 0x00 0x80FE ⟨false, false, false, false, false, false⟩ [(0x80FE, 0x20), (0x8100, 0x90)])) 6
      (fun t => t.sp == 0xFE && t.pc == 0x9000 && t.p == ⟨false, false, false, false, false, false⟩ && t.mem.read 0x0100 == 0x81 && t.mem.read 0x01FF == 0x00) = true := by decide

-- V-LS-1 (R120 R101 R32): LDA #$00.
theorem test_lda_ls_1 :
    returns (runCall (cpu 0x55 0x00 0x00 0xFD 0x8000 ⟨false, false, false, false, false, false⟩ [(0x8000, 0xA9)])) 2
      (fun t => t.a == 0x00 && t.pc == 0x8002 && t.p == ⟨false, false, false, false, true, false⟩) = true := by decide

-- V-LS-18 (R120 R110 R59): LDA ($FF),Y.
theorem test_lda_ls_18 :
    returns (runCall (cpu 0x00 0x00 0x01 0xFD 0x8000 ⟨false, false, false, false, false, false⟩ [(0x0000, 0x04), (0x0100, 0x99), (0x0401, 0x23), (0x8000, 0xB1), (0x8001, 0xFF)])) 5
      (fun t => t.a == 0x23 && t.pc == 0x8002 && t.p == ⟨false, false, false, false, false, false⟩) = true := by decide

-- V-LS-6 (R121 R104): LDX $F0,Y.
theorem test_ldx_ls_6 :
    returns (runCall (cpu 0x00 0x00 0x20 0xFD 0x8000 ⟨false, false, false, false, false, false⟩ [(0x0010, 0x99), (0x8000, 0xB6), (0x8001, 0xF0)])) 4
      (fun t => t.x == 0x99 && t.pc == 0x8002 && t.p == ⟨true, false, false, false, false, false⟩) = true := by decide

-- V-LS-11 (R121 R107): LDX $12F0,Y.
theorem test_ldx_ls_11 :
    returns (runCall (cpu 0x00 0x11 0x10 0xFD 0x8000 ⟨false, false, false, false, false, false⟩ [(0x8000, 0xBE), (0x8001, 0xF0), (0x8002, 0x12)])) 5
      (fun t => t.x == 0x00 && t.pc == 0x8003 && t.p == ⟨false, false, false, false, true, false⟩) = true := by decide

-- V-LS-12 (R122 R106): LDY $12F0,X.
theorem test_ldy_ls_12 :
    returns (runCall (cpu 0x00 0x10 0x00 0xFD 0x8000 ⟨false, false, false, false, false, false⟩ [(0x1300, 0xF0), (0x8000, 0xBC), (0x8001, 0xF0), (0x8002, 0x12)])) 5
      (fun t => t.y == 0xF0 && t.pc == 0x8003 && t.p == ⟨true, false, false, false, false, false⟩) = true := by decide

-- V-LS-27 (R122): LDY #$80.
theorem test_ldy_ls_27 :
    returns (runCall (cpu 0x00 0x00 0x00 0xFD 0x8000 ⟨false, false, false, false, true, false⟩ [(0x8000, 0xA0), (0x8001, 0x80)])) 2
      (fun t => t.y == 0x80 && t.pc == 0x8002 && t.p == ⟨true, false, false, false, false, false⟩) = true := by decide

-- V-SH-3 (R142): LSR A.
theorem test_lsr_sh_3 :
    returns (runCall (cpu 0x01 0x00 0x00 0xFD 0x8000 ⟨true, false, false, false, false, false⟩ [(0x8000, 0x4A)])) 2
      (fun t => t.a == 0x00 && t.pc == 0x8001 && t.p == ⟨false, false, false, false, true, true⟩) = true := by decide

-- V-SH-11 (R142 R106): LSR $02F0,X.
theorem test_lsr_sh_11 :
    returns (runCall (cpu 0x00 0x20 0x00 0xFD 0x8000 ⟨false, false, false, false, false, false⟩ [(0x0310, 0x03), (0x8000, 0x5E), (0x8001, 0xF0), (0x8002, 0x02)])) 7
      (fun t => t.pc == 0x8003 && t.p == ⟨false, false, false, false, false, true⟩ && t.mem.read 0x0310 == 0x01) = true := by decide

-- V-FL-8 (R197): NOP.
theorem test_nop_fl_8 :
    returns (runCall (cpu 0x12 0x34 0x56 0xFD 0x8000 ⟨true, false, false, false, false, true⟩ [(0x8000, 0xEA)])) 2
      (fun t => t.pc == 0x8001 && t.p == ⟨true, false, false, false, false, true⟩) = true := by decide

-- V-FL-9 (R197 R25): NOP.
theorem test_nop_fl_9 :
    returns (runCall (cpu 0x00 0x00 0x00 0xFD 0xFFFF ⟨false, false, false, false, false, false⟩ [(0xFFFF, 0xEA)])) 2
      (fun t => t.pc == 0x0000 && t.p == ⟨false, false, false, false, false, false⟩) = true := by decide

-- V-LOG-3 (R136): ORA #$00.
theorem test_ora_log_3 :
    returns (runCall (cpu 0x00 0x00 0x00 0xFD 0x8000 ⟨false, false, false, false, false, false⟩ [(0x8000, 0x09)])) 2
      (fun t => t.pc == 0x8002 && t.p == ⟨false, false, false, false, true, false⟩) = true := by decide

-- V-LOG-4 (R136): ORA $10.
theorem test_ora_log_4 :
    returns (runCall (cpu 0x01 0x00 0x00 0xFD 0x8000 ⟨false, false, false, false, false, false⟩ [(0x0010, 0x80), (0x8000, 0x05), (0x8001, 0x10)])) 3
      (fun t => t.a == 0x81 && t.pc == 0x8002 && t.p == ⟨true, false, false, false, false, false⟩) = true := by decide

-- V-ST-1 (R180): PHA.
theorem test_pha_st_1 :
    returns (runCall (cpu 0x42 0x00 0x00 0xFD 0x8000 ⟨false, false, false, false, true, false⟩ [(0x8000, 0x48)])) 3
      (fun t => t.sp == 0xFC && t.pc == 0x8001 && t.p == ⟨false, false, false, false, true, false⟩ && t.mem.read 0x01FD == 0x42) = true := by decide

-- V-ST-2 (R180 R62): PHA.
theorem test_pha_st_2 :
    returns (runCall (cpu 0x42 0x00 0x00 0x00 0x8000 ⟨false, false, false, false, false, false⟩ [(0x8000, 0x48)])) 3
      (fun t => t.sp == 0xFF && t.pc == 0x8001 && t.p == ⟨false, false, false, false, false, false⟩ && t.mem.read 0x0100 == 0x42) = true := by decide

-- V-ST-5 (R182 R30): PHP.
theorem test_php_st_5 :
    returns (runCall (cpu 0x00 0x00 0x00 0xFD 0x8000 ⟨false, false, false, false, false, false⟩ [(0x8000, 0x08)])) 3
      (fun t => t.sp == 0xFC && t.pc == 0x8001 && t.p == ⟨false, false, false, false, false, false⟩ && t.mem.read 0x01FD == 0x30) = true := by decide

-- V-ST-7 (R182 R30): PHP.
theorem test_php_st_7 :
    returns (runCall (cpu 0x00 0x00 0x00 0xFD 0x8000 ⟨true, true, true, true, true, true⟩ [(0x8000, 0x08)])) 3
      (fun t => t.sp == 0xFC && t.pc == 0x8001 && t.p == ⟨true, true, true, true, true, true⟩ && t.mem.read 0x01FD == 0xFF) = true := by decide

-- V-ST-3 (R181): PLA.
theorem test_pla_st_3 :
    returns (runCall (cpu 0x11 0x00 0x00 0xFC 0x8000 ⟨false, false, false, false, false, false⟩ [(0x8000, 0x68)])) 4
      (fun t => t.a == 0x00 && t.sp == 0xFD && t.pc == 0x8001 && t.p == ⟨false, false, false, false, true, false⟩) = true := by decide

-- V-ST-4 (R181 R63): PLA.
theorem test_pla_st_4 :
    returns (runCall (cpu 0x00 0x00 0x00 0xFF 0x8000 ⟨false, false, false, false, false, false⟩ [(0x0100, 0x80), (0x8000, 0x68)])) 4
      (fun t => t.a == 0x80 && t.sp == 0x00 && t.pc == 0x8001 && t.p == ⟨true, false, false, false, false, false⟩) = true := by decide

-- V-ST-8 (R183 R31): PLP.
theorem test_plp_st_8 :
    returns (runCall (cpu 0x00 0x00 0x00 0xFC 0x8000 ⟨false, false, false, false, false, false⟩ [(0x01FD, 0xFF), (0x8000, 0x28)])) 4
      (fun t => t.sp == 0xFD && t.pc == 0x8001 && t.p == ⟨true, true, true, true, true, true⟩) = true := by decide

-- V-ST-11 (R183 R31): PLP.
theorem test_plp_st_11 :
    returns (runCall (cpu 0x00 0x00 0x00 0xFC 0x8000 ⟨false, false, false, false, false, false⟩ [(0x01FD, 0xC3), (0x8000, 0x28)])) 4
      (fun t => t.sp == 0xFD && t.pc == 0x8001 && t.p == ⟨true, true, false, false, true, true⟩) = true := by decide

-- V-SH-5 (R143): ROL A.
theorem test_rol_sh_5 :
    returns (runCall (cpu 0x80 0x00 0x00 0xFD 0x8000 ⟨false, false, false, false, false, true⟩ [(0x8000, 0x2A)])) 2
      (fun t => t.a == 0x01 && t.pc == 0x8001 && t.p == ⟨false, false, false, false, false, true⟩) = true := by decide

-- V-SH-12 (R143 R103): ROL $F0,X.
theorem test_rol_sh_12 :
    returns (runCall (cpu 0x00 0x20 0x00 0xFD 0x8000 ⟨false, false, false, false, false, true⟩ [(0x0010, 0x7F), (0x8000, 0x36), (0x8001, 0xF0)])) 6
      (fun t => t.pc == 0x8002 && t.p == ⟨true, false, false, false, false, false⟩ && t.mem.read 0x0010 == 0xFF) = true := by decide

-- V-SH-8 (R144): ROR A.
theorem test_ror_sh_8 :
    returns (runCall (cpu 0x01 0x00 0x00 0xFD 0x8000 ⟨false, false, false, false, false, false⟩ [(0x8000, 0x6A)])) 2
      (fun t => t.a == 0x00 && t.pc == 0x8001 && t.p == ⟨false, false, false, false, true, true⟩) = true := by decide

-- V-SH-13 (R144): ROR $0200.
theorem test_ror_sh_13 :
    returns (runCall (cpu 0x00 0x00 0x00 0xFD 0x8000 ⟨false, false, false, false, false, false⟩ [(0x0200, 0x02), (0x8000, 0x6E), (0x8002, 0x02)])) 6
      (fun t => t.pc == 0x8003 && t.p == ⟨false, false, false, false, false, false⟩ && t.mem.read 0x0200 == 0x01) = true := by decide

-- V-J-10 (R175): RTI.
theorem test_rti_j_10 :
    returns (runCall (cpu 0x00 0x00 0x00 0xFA 0x9010 ⟨false, false, false, true, false, false⟩ [(0x01FB, 0xB9), (0x01FC, 0x02), (0x01FD, 0x80), (0x9010, 0x40)])) 6
      (fun t => t.sp == 0xFD && t.pc == 0x8002 && t.p == ⟨true, false, true, false, false, true⟩) = true := by decide

-- V-J-12 (R175 R31): RTI.
theorem test_rti_j_12 :
    returns (runCall (cpu 0x00 0x00 0x00 0xFA 0x9010 ⟨false, false, false, false, false, false⟩ [(0x01FB, 0xFF), (0x9010, 0x40)])) 6
      (fun t => t.sp == 0xFD && t.pc == 0x0000 && t.p == ⟨true, true, true, true, true, true⟩) = true := by decide

-- V-J-6 (R174): RTS.
theorem test_rts_j_6 :
    returns (runCall (cpu 0x00 0x00 0x00 0xFB 0x9000 ⟨false, false, false, false, false, false⟩ [(0x01FC, 0x02), (0x01FD, 0x80), (0x9000, 0x60)])) 6
      (fun t => t.sp == 0xFD && t.pc == 0x8003 && t.p == ⟨false, false, false, false, false, false⟩) = true := by decide

-- V-J-7 (R174): RTS.
theorem test_rts_j_7 :
    returns (runCall (cpu 0x00 0x00 0x00 0xFE 0x9000 ⟨false, false, false, false, false, false⟩ [(0x0100, 0xFF), (0x01FF, 0xFF), (0x9000, 0x60)])) 6
      (fun t => t.sp == 0x00 && t.pc == 0x0000 && t.p == ⟨false, false, false, false, false, false⟩) = true := by decide

-- V-SBC-1 (R133): SBC #$F0.
theorem test_sbc_sbc_1 :
    returns (runCall (cpu 0x50 0x00 0x00 0xFD 0x8000 ⟨false, false, false, false, false, true⟩ [(0x8000, 0xE9), (0x8001, 0xF0)])) 2
      (fun t => t.a == 0x60 && t.pc == 0x8002 && t.p == ⟨false, false, false, false, false, false⟩) = true := by decide

-- V-DSBC-1 (R134): SBC #$12.
theorem test_sbc_dsbc_1 :
    returns (runCall (cpu 0x46 0x00 0x00 0xFD 0x8000 ⟨false, false, true, false, false, true⟩ [(0x8000, 0xE9), (0x8001, 0x12)])) 2
      (fun t => t.a == 0x34 && t.pc == 0x8002 && t.p == ⟨false, false, true, false, false, true⟩) = true := by decide

-- V-FL-2 (R191): SEC.
theorem test_sec_fl_2 :
    returns (runCall (cpu 0x00 0x00 0x00 0xFD 0x8000 ⟨false, false, false, false, false, false⟩ [(0x8000, 0x38)])) 2
      (fun t => t.pc == 0x8001 && t.p == ⟨false, false, false, false, false, true⟩) = true := by decide

-- V-FL-6 (R195): SED.
theorem test_sed_fl_6 :
    returns (runCall (cpu 0x00 0x00 0x00 0xFD 0x8000 ⟨false, false, false, false, false, false⟩ [(0x8000, 0xF8)])) 2
      (fun t => t.pc == 0x8001 && t.p == ⟨false, false, true, false, false, false⟩) = true := by decide

-- V-FL-4 (R193): SEI.
theorem test_sei_fl_4 :
    returns (runCall (cpu 0x00 0x00 0x00 0xFD 0x8000 ⟨false, false, false, false, false, false⟩ [(0x8000, 0x78)])) 2
      (fun t => t.pc == 0x8001 && t.p == ⟨false, false, false, true, false, false⟩) = true := by decide

-- V-LS-19 (R123 R102): STA $10.
theorem test_sta_ls_19 :
    returns (runCall (cpu 0x00 0x00 0x00 0xFD 0x8000 ⟨true, false, false, false, false, false⟩ [(0x8000, 0x85), (0x8001, 0x10)])) 3
      (fun t => t.pc == 0x8002 && t.p == ⟨true, false, false, false, false, false⟩ && t.mem.read 0x0010 == 0x00) = true := by decide

-- V-LS-23 (R123 R110): STA ($20),Y.
theorem test_sta_ls_23 :
    returns (runCall (cpu 0xEE 0x00 0x01 0xFD 0x8000 ⟨false, false, false, false, false, false⟩ [(0x0020, 0xFF), (0x0021, 0x02), (0x8000, 0x91), (0x8001, 0x20)])) 6
      (fun t => t.pc == 0x8002 && t.p == ⟨false, false, false, false, false, false⟩ && t.mem.read 0x0300 == 0xEE) = true := by decide

-- V-LS-24 (R124 R104): STX $F0,Y.
theorem test_stx_ls_24 :
    returns (runCall (cpu 0x00 0xAB 0x11 0xFD 0x8000 ⟨false, false, false, false, false, false⟩ [(0x8000, 0x96), (0x8001, 0xF0)])) 4
      (fun t => t.pc == 0x8002 && t.p == ⟨false, false, false, false, false, false⟩ && t.mem.read 0x0001 == 0xAB) = true := by decide

-- V-LS-26 (R124 R105): STX $0200.
theorem test_stx_ls_26 :
    returns (runCall (cpu 0x00 0x01 0x00 0xFD 0x8000 ⟨false, false, false, false, false, false⟩ [(0x8000, 0x8E), (0x8002, 0x02)])) 4
      (fun t => t.pc == 0x8003 && t.p == ⟨false, false, false, false, false, false⟩ && t.mem.read 0x0200 == 0x01) = true := by decide

-- V-LS-25 (R125 R103): STY $FF,X.
theorem test_sty_ls_25 :
    returns (runCall (cpu 0x00 0x01 0xCD 0xFD 0x8000 ⟨false, false, false, false, false, false⟩ [(0x8000, 0x94), (0x8001, 0xFF)])) 4
      (fun t => t.pc == 0x8002 && t.p == ⟨false, false, false, false, false, false⟩ && t.mem.read 0x0000 == 0xCD) = true := by decide

-- V-TR-1 (R200): TAX.
theorem test_tax_tr_1 :
    returns (runCall (cpu 0x80 0x00 0x00 0xFD 0x8000 ⟨false, false, false, false, false, false⟩ [(0x8000, 0xAA)])) 2
      (fun t => t.x == 0x80 && t.pc == 0x8001 && t.p == ⟨true, false, false, false, false, false⟩) = true := by decide

-- V-TR-2 (R201): TAY.
theorem test_tay_tr_2 :
    returns (runCall (cpu 0x00 0x00 0x55 0xFD 0x8000 ⟨true, false, false, false, false, false⟩ [(0x8000, 0xA8)])) 2
      (fun t => t.y == 0x00 && t.pc == 0x8001 && t.p == ⟨false, false, false, false, true, false⟩) = true := by decide

-- V-TR-5 (R204): TSX.
theorem test_tsx_tr_5 :
    returns (runCall (cpu 0x00 0x00 0x00 0xFD 0x8000 ⟨false, false, false, false, false, false⟩ [(0x8000, 0xBA)])) 2
      (fun t => t.x == 0xFD && t.pc == 0x8001 && t.p == ⟨true, false, false, false, false, false⟩) = true := by decide

-- V-TR-6 (R204): TSX.
theorem test_tsx_tr_6 :
    returns (runCall (cpu 0x00 0x01 0x00 0x00 0x8000 ⟨false, false, false, false, false, false⟩ [(0x8000, 0xBA)])) 2
      (fun t => t.x == 0x00 && t.pc == 0x8001 && t.p == ⟨false, false, false, false, true, false⟩) = true := by decide

-- V-TR-3 (R202): TXA.
theorem test_txa_tr_3 :
    returns (runCall (cpu 0xFF 0x7F 0x00 0xFD 0x8000 ⟨true, false, false, false, false, false⟩ [(0x8000, 0x8A)])) 2
      (fun t => t.a == 0x7F && t.pc == 0x8001 && t.p == ⟨false, false, false, false, false, false⟩) = true := by decide

-- V-TR-7 (R205): TXS.
theorem test_txs_tr_7 :
    returns (runCall (cpu 0x00 0x00 0x00 0xFD 0x8000 ⟨true, false, false, false, false, false⟩ [(0x8000, 0x9A)])) 2
      (fun t => t.sp == 0x00 && t.pc == 0x8001 && t.p == ⟨true, false, false, false, false, false⟩) = true := by decide

-- V-TR-8 (R205): TXS.
theorem test_txs_tr_8 :
    returns (runCall (cpu 0x00 0xFF 0x00 0xFD 0x8000 ⟨false, false, false, false, true, false⟩ [(0x8000, 0x9A)])) 2
      (fun t => t.sp == 0xFF && t.pc == 0x8001 && t.p == ⟨false, false, false, false, true, false⟩) = true := by decide

-- V-TR-4 (R203): TYA.
theorem test_tya_tr_4 :
    returns (runCall (cpu 0x00 0x00 0xFF 0xFD 0x8000 ⟨false, false, false, false, false, false⟩ [(0x8000, 0x98)])) 2
      (fun t => t.a == 0xFF && t.pc == 0x8001 && t.p == ⟨true, false, false, false, false, false⟩) = true := by decide

-- V-INT-1 (R221 R222 R223): (NMI service; opcode not fetched).
theorem test_int_1 :
    returns (runCall ({ cpu 0x00 0x00 0x00 0xFD 0x8123 ⟨true, false, false, false, false, true⟩ [(0x8123, 0xEA), (0xFFFB, 0x90)] with irqPending := false, nmiPending := true })) 7
      (fun t => t.sp == 0xFA && t.pc == 0x9000 && t.p == ⟨true, false, false, true, false, true⟩ && t.mem.read 0x01FD == 0x81 && t.mem.read 0x01FC == 0x23 && t.mem.read 0x01FB == 0xA1 && t.irqPending == false && t.nmiPending == false) = true := by decide

-- V-INT-2 (R223): (NMI service with I = 1).
theorem test_int_2 :
    returns (runCall ({ cpu 0x00 0x00 0x00 0xFD 0x8123 ⟨false, false, false, true, false, false⟩ [(0x8123, 0xEA), (0xFFFB, 0x90)] with irqPending := false, nmiPending := true })) 7
      (fun t => t.sp == 0xFA && t.pc == 0x9000 && t.p == ⟨false, false, false, true, false, false⟩ && t.mem.read 0x01FD == 0x81 && t.mem.read 0x01FC == 0x23 && t.mem.read 0x01FB == 0x24 && t.irqPending == false && t.nmiPending == false) = true := by decide

-- V-INT-3 (R221 R222 R225): (IRQ service, I = 0).
theorem test_int_3 :
    returns (runCall ({ cpu 0x00 0x00 0x00 0xFD 0x8123 ⟨false, false, false, false, true, false⟩ [(0x8123, 0xEA), (0xFFFE, 0x10), (0xFFFF, 0x90)] with irqPending := true, nmiPending := false })) 7
      (fun t => t.sp == 0xFA && t.pc == 0x9010 && t.p == ⟨false, false, false, true, true, false⟩ && t.mem.read 0x01FD == 0x81 && t.mem.read 0x01FC == 0x23 && t.mem.read 0x01FB == 0x22 && t.irqPending == false && t.nmiPending == false) = true := by decide

-- V-INT-4 (R221 R225): NOP (IRQ pending, I = 1: masked).
theorem test_int_4 :
    returns (runCall ({ cpu 0x00 0x00 0x00 0xFD 0x8123 ⟨false, false, false, true, false, false⟩ [(0x8123, 0xEA), (0xFFFE, 0x10), (0xFFFF, 0x90)] with irqPending := true, nmiPending := false })) 2
      (fun t => t.pc == 0x8124 && t.p == ⟨false, false, false, true, false, false⟩ && t.irqPending == true && t.nmiPending == false) = true := by decide

-- V-INT-5 (R192 R224): CLI (IRQ pending, I = 1: masked during this step).
theorem test_int_5 :
    returns (runCall ({ cpu 0x00 0x00 0x00 0xFD 0x8123 ⟨false, false, false, true, false, false⟩ [(0x8123, 0x58), (0xFFFE, 0x10), (0xFFFF, 0x90)] with irqPending := true, nmiPending := false })) 2
      (fun t => t.pc == 0x8124 && t.p == ⟨false, false, false, false, false, false⟩ && t.irqPending == true && t.nmiPending == false) = true := by decide

-- V-INT-6 (R226): (both pending, I = 0: NMI first).
theorem test_int_6 :
    returns (runCall ({ cpu 0x00 0x00 0x00 0xFD 0x8123 ⟨false, false, false, false, false, false⟩ [(0x8123, 0xEA), (0xFFFB, 0x90), (0xFFFE, 0x10), (0xFFFF, 0x90)] with irqPending := true, nmiPending := true })) 7
      (fun t => t.sp == 0xFA && t.pc == 0x9000 && t.p == ⟨false, false, false, true, false, false⟩ && t.mem.read 0x01FD == 0x81 && t.mem.read 0x01FC == 0x23 && t.mem.read 0x01FB == 0x20 && t.irqPending == true && t.nmiPending == false) = true := by decide

-- V-INT-7 (R222 R62): (IRQ service, SP wraps).
theorem test_int_7 :
    returns (runCall ({ cpu 0x00 0x00 0x00 0x01 0x8123 ⟨false, false, false, false, false, false⟩ [(0x8123, 0xEA), (0xFFFE, 0x10), (0xFFFF, 0x90)] with irqPending := true, nmiPending := false })) 7
      (fun t => t.sp == 0xFE && t.pc == 0x9010 && t.p == ⟨false, false, false, true, false, false⟩ && t.mem.read 0x0101 == 0x81 && t.mem.read 0x0100 == 0x23 && t.mem.read 0x01FF == 0x20 && t.irqPending == false && t.nmiPending == false) = true := by decide

/-! Witnesses: for each obligation with hypotheses, a state and operands that meet them. -/

/-- The machine on a flat memory, with a program of one NOP at 0x8000. -/
def flat : State := cpu 0x12 0x34 0x56 0xFD 0x8000 ⟨false, true, false, false, false, true⟩ [(0x8000, 0xEA)]

/-- The machine on a bus where every address is a device register. -/
def dev : State := { flat with bus := [{ first := 0x0000, last := 0xFFFF, period := 0x10000, kind := .device }] }

/-- The machine on a bus that refuses every address. -/
def deaf : State := { flat with bus := [] }

theorem flat_total (s : State) (h : s.bus = flatMap) : s.BusTotal := flatMap_total h

theorem flat_stack (s : State) (h : s.bus = flatMap) : s.StackIsRam := by
  refine ⟨fun sp => (slot sp).toNat, fun a b e => ?_, fun sp => flatMap_route h _⟩
  apply BitVec.eq_of_toNat_eq
  have ha := a.isLt
  have hb := b.isLt
  simp only [slot, BitVec.toNat_add, BitVec.toNat_setWidth] at e
  omega

theorem dev_routes (addr : Word) : dev.route addr = .device addr := by
  have h := addr.isLt
  simp only [State.route, dev, routeIn, regionRoute, regionCell]
  rw [if_pos (by omega)]
  simp only [Nat.sub_zero, Nat.zero_add, Route.device.injEq]
  rw [Nat.mod_eq_of_lt h, BitVec.ofNat_toNat, BitVec.setWidth_eq]

-- EncodeDecode: both ends of the lengths.
theorem test_witness_encode_decode : decode [0xEA, 0x02] = .ok (.nop, [0x02]) ∧ decode [0x6C, 0xFF, 0x02] = .ok (.jmpInd 0x02FF, []) := by
  decide

-- LegalForms: STA exists in absolute,X and not in immediate; equal lines.
theorem test_witness_legal_forms : AsmLine.wellFormed ⟨.sta, .mem (.absx 0x10A5)⟩ = true ∧
    (Instr.staAbsx 0x10A5).line = ⟨.sta, .mem (.absx 0x10A5)⟩ ∧ AsmLine.wellFormed ⟨.sta, .imm 0x10⟩ = false := by decide

-- Every obligation whose premises are a total bus, the stack in memory and the canonical form: ResetSequence, StackAccess, PointerModes,
-- JumpToSubroutine, ReturnFromSubroutine, ReturnFromInterrupt, Break, Pushes, Pulls, CallReturns, StackRoundTrips,
-- EveryInstructionCompletes.
theorem test_witness_total_bus : flat.BusTotal ∧ flat.StackIsRam ∧ Memory.wf flat.mem = true :=
  ⟨flat_total _ rfl, flat_stack _ rfl, by decide⟩

-- PointerModes: JMP_IND_WRAP both ways.
theorem test_witness_pointer_modes : flat.params.jmpIndWrap = true ∧
    { flat with params := { flat.params with jmpIndWrap := false } }.BusTotal := ⟨rfl, flat_total _ rfl⟩

-- NoStepOutsideRunning.
theorem test_witness_no_step : State.powerOn.run = .poweredOff ∧ flat.toFaulted.run = .faulted := by decide

-- PendingBitsAfterStep, MemoryFrame's and the frames' answer: a step with no, a masked and an unmasked IRQ.
theorem test_witness_pending : (∃ t, step flat = .next t) ∧ (∃ t, step { flat with irqPending := true } = .next t) ∧
    (∃ t, step { flat with irqPending := true, p := ⟨false, false, false, true, false, false⟩ } = .next t) :=
  ⟨⟨_, rfl⟩, ⟨_, rfl⟩, ⟨_, rfl⟩⟩

-- BusReads, BusWrites: an address of each kind on the console's map, and a refused one.
theorem test_witness_bus : State.reset.route 0x0801 = .ram 0x0001 ∧ State.reset.route 0xFFFF = .rom 0xFFFF ∧
    State.reset.route 0x3FFF = .device 0x2007 ∧ deaf.route 0x0000 = .refused ∧ Memory.wf State.reset.mem = true := by decide

-- ConsoleMap: the bounds of its ranges.
theorem test_witness_console_map : State.reset.bus = consoleMap ∧ State.reset.route 0x1FFF = .ram 0x07FF ∧
    State.reset.route 0x2000 = .device 0x2000 ∧ State.reset.route 0x3FFF = .device 0x2007 ∧
    State.reset.route 0x4000 = .device 0x4000 ∧ State.reset.route 0x401F = .device 0x401F ∧
    State.reset.route 0x4020 = .device 0x4020 ∧ State.reset.route 0x7FFF = .device 0x7FFF ∧
    State.reset.route 0x8000 = .rom 0x8000 := by decide

-- LoadA, LoadX, LoadY, Stores, Logic, BitTest, Compares, MemorySteps, Shifts: an instruction of each mnemonic.
theorem test_witness_mnemonics : (Instr.ldaIndy 0x20).mnemonic = .lda ∧ (Instr.ldxZpy 0x10).mnemonic = .ldx ∧
    (Instr.ldyAbsx 0x12F0).mnemonic = .ldy ∧ (Instr.staIndx 0x20).mnemonic = .sta ∧ (Instr.stxZpy 0xF0).mnemonic = .stx ∧
    (Instr.styZpx 0xFF).mnemonic = .sty ∧ (Instr.andImm 0x0F).mnemonic = .and ∧ (Instr.oraZp 0x10).mnemonic = .ora ∧
    (Instr.eorAbs 0x0200).mnemonic = .eor ∧ (Instr.bitZp 0x10).mnemonic = .bit ∧ (Instr.cmpImm 0x40).mnemonic = .cmp ∧
    (Instr.cpxImm 0x40).mnemonic = .cpx ∧ (Instr.cpyAbs 0x0200).mnemonic = .cpy ∧ (Instr.incZp 0x10).mnemonic = .inc ∧
    (Instr.decAbsx 0x0200).mnemonic = .dec ∧ (Instr.aslZpx 0x10).mnemonic = .asl ∧ Instr.lsrAcc.mnemonic = .lsr ∧
    (Instr.rolZp 0x10).operand = .mem (.zp 0x10) ∧ (Instr.rorAcc).operand = .acc := by decide

-- AdcBinary, SbcBinary: either premise. AdcDecimal, SbcDecimal: the premises, with digits and without.
theorem test_witness_arithmetic : (Instr.adcImm 0x10).mnemonic = .adc ∧ (Instr.sbcImm 0x10).mnemonic = .sbc ∧ flat.p.d = false ∧
    { flat with params := { flat.params with decimal := .ignored } }.params.decimal = .ignored ∧
    { flat with p := ⟨false, false, true, false, false, false⟩ }.p.d = true ∧ flat.params.decimal = .nmos := by decide

theorem test_witness_bcd : IsBcd 0x00 ∧ IsBcd 0x99 ∧ ¬ IsBcd 0x9A ∧ ¬ IsBcd 0xA0 := by
  refine ⟨?_, ?_, ?_, ?_⟩ <;> simp [IsBcd]

-- RegisterSteps: the wrap of each direction.
theorem test_witness_register_steps : (0x00 : Byte).toNat = ((0xFF : Byte).toNat + 1) % 256 ∧
    (0xFF : Byte).toNat = ((0x00 : Byte).toNat + 255) % 256 := by decide

-- NmiService, IrqService, MaskAndPriority, TrapReturns.
theorem test_witness_services :
    let n : State := { flat with nmiPending := true, irqPending := true }
    let q : State := { flat with irqPending := true, p := ⟨false, false, false, false, false, false⟩ }
    n.run = .running ∧ n.BusTotal ∧ n.StackIsRam ∧ n.nmiPending = true ∧ n.irqPending = true ∧ Memory.wf n.mem = true ∧
      q.run = .running ∧ q.BusTotal ∧ q.StackIsRam ∧ q.nmiPending = false ∧ q.irqPending = true ∧ q.p.i = false ∧
      Memory.wf q.mem = true :=
  ⟨rfl, flat_total _ rfl, flat_stack _ rfl, rfl, rfl, by decide, rfl, flat_total _ rfl, flat_stack _ rfl, rfl, rfl, rfl,
    by decide⟩

theorem test_witness_mask :
    let q : State := { flat with irqPending := true, p := ⟨false, false, false, true, false, false⟩ }
    q.nmiPending = false ∧ q.irqPending = true ∧ q.p.i = true ∧ ∃ t, step q = .next t := ⟨rfl, rfl, rfl, _, rfl⟩

-- StepRunsDecoded.
theorem test_witness_step_runs : flat.run = .running ∧ flat.NoService ∧ fetchBytes Instr.nop.length flat.pc flat = .ok [0xEA] flat ∧
    decode [0xEA] = .ok (.nop, []) ∧ ∃ t, exec .nop flat = .next t :=
  ⟨rfl, ⟨rfl, .inl rfl⟩, by decide, by decide, _, rfl⟩

-- IllegalOpcodeFaults: the first and the last illegal byte.
theorem test_witness_illegal :
    let s : State := { flat with mem := [(0x8000, 0x02)] }
    let u : State := { flat with mem := [(0x8000, 0xFF)] }
    s.run = .running ∧ s.NoService ∧ s.refuses s.pc = false ∧ s.peek s.pc ∈ illegalBytes ∧ u.peek u.pc ∈ illegalBytes ∧
      step s = .fault (.illegalOpcode 0x02 0x8000) ∧ step u = .fault (.illegalOpcode 0xFF 0x8000) :=
  ⟨rfl, ⟨rfl, .inl rfl⟩, by decide, by decide, by decide, rfl, rfl⟩

-- FaultCauses.
theorem test_witness_faults : deaf.run = .running ∧ deaf.NoService ∧ deaf.refuses deaf.pc = true ∧
    (∃ f, exec (.ldaZp 0x10) deaf = .fault f) ∧ (∃ f, step deaf = .fault f) ∧ (∃ f t, runCall deaf = .aborted f t) ∧
    ∃ a t, resetCall deaf = .refused a t :=
  ⟨rfl, ⟨rfl, .inl rfl⟩, by decide, ⟨_, rfl⟩, ⟨_, rfl⟩, ⟨_, _, rfl⟩, ⟨_, _, rfl⟩⟩

/-- The machine on a bus that holds the given addresses as memory and refuses every other, with these cells. -/
def narrow (last : Nat) (cells : Memory) : State :=
  { flat with mem := cells, bus := [{ first := 0x8000, last := last, period := 0x8000, kind := .ram }] }

-- RefusedOperandByte: an immediate, another two-byte form, and either operand byte of a three-byte form.
theorem test_witness_refused_operand :
    let s : State := narrow 0x8000 [(0x8000, 0xA9)]
    let u : State := narrow 0x8001 [(0x8000, 0xAD)]
    s.run = .running ∧ s.NoService ∧ s.refuses s.pc = false ∧ s.peek s.pc = (Instr.ldaImm 0x00).opcode ∧
      (Instr.ldaImm 0x00).length ≥ 2 ∧ s.refuses (s.pc + 1) = true ∧
      u.run = .running ∧ u.NoService ∧ u.refuses u.pc = false ∧ u.peek u.pc = (Instr.ldaAbs 0x0000).opcode ∧
      (Instr.ldaAbs 0x0000).length = 3 ∧ u.refuses (u.pc + 1) = false ∧ u.refuses (u.pc + 2) = true :=
  ⟨rfl, ⟨rfl, .inl rfl⟩, by decide, by decide, by decide, by decide, rfl, ⟨rfl, .inl rfl⟩, by decide, by decide, by decide,
    by decide, by decide⟩

-- R241, R101, D27: LDA #, its operand byte refused, leaves PC past that byte.
theorem test_refused_immediate : (runCall (narrow 0x8000 [(0x8000, 0xA9)])).left.map (fun t => t.pc) = some 0x8002 := by decide

-- R241, R60: LDA zero-page and LDA absolute, an operand byte refused, leave PC at that byte.
theorem test_refused_operand : (runCall (narrow 0x8000 [(0x8000, 0xA5)])).left.map (fun t => t.pc) = some 0x8001 ∧
    (runCall (narrow 0x8001 [(0x8000, 0xAD)])).left.map (fun t => t.pc) = some 0x8002 := by decide

-- RegisterWriters, FlagWriters: an instruction that none of the lists names.
theorem test_witness_writers : (∃ t, exec .nop flat = .next t) ∧ Instr.nop.operand ≠ .acc ∧
    Instr.nop.mnemonic ∉ [.adc, .sbc, .and, .ora, .eor, .lda, .pla, .txa, .tya] ∧
    Instr.nop.mnemonic ∉ [.pha, .php, .pla, .plp, .jsr, .rts, .brk, .rti, .txs] ∧
    Instr.nop.mnemonic ∉ [.adc, .sbc, .asl, .lsr, .rol, .ror, .cmp, .cpx, .cpy, .sec, .clc, .plp, .rti] :=
  ⟨⟨_, rfl⟩, by decide, by decide, by decide, by decide⟩

-- MemoryFrame: a byte beside the stored one, for each clause.
theorem test_witness_memory_frame : Memory.wf flat.mem = true ∧ flat.route 0x0010 = .ram 0x0010 ∧
    (∃ t, exec (.staZp 0x11) flat = .next t) ∧ (∃ u, HasAddress flat (.staZp 0x11) 0x0011 u) ∧
    flat.route 0x0011 ≠ .ram 0x0010 ∧ (∃ t, exec .pha flat = .next t) ∧ (∃ t, exec (.jsr 0x9000) flat = .next t) ∧
    (∃ t, exec .brk flat = .next t) ∧ flat.route (slot flat.sp) ≠ .ram 0x0010 ∧ flat.route (slot (flat.sp - 1)) ≠ .ram 0x0010 ∧
    flat.route (slot (flat.sp - 2)) ≠ .ram 0x0010 ∧ ∃ t, exec (.ldaZp 0x10) flat = .next t :=
  ⟨by decide, by decide, ⟨_, rfl⟩, ⟨flat.advance 2, rfl, .zp 0x11, ⟨0x0011, false⟩, rfl, rfl, rfl⟩, by decide, ⟨_, rfl⟩, ⟨_, rfl⟩,
    ⟨_, rfl⟩, by decide, by decide, by decide, ⟨_, rfl⟩⟩

-- MemoryFrame: a ROM cell, under a store to its own address and to another.
theorem test_witness_memory_frame_rom : Memory.wf State.reset.mem = true ∧ State.reset.route 0x8000 = .rom 0x8000 ∧
    (∃ t, exec (.staAbs 0x8000) State.reset = .next t) ∧ (∃ u, HasAddress State.reset (.staAbs 0x8000) 0x8000 u) ∧
    State.reset.route 0x8000 ≠ .ram 0x8000 ∧ (∃ t, exec (.staAbs 0x0010) State.reset = .next t) ∧
    (∃ u, HasAddress State.reset (.staAbs 0x0010) 0x0010 u) ∧ State.reset.route 0x0010 ≠ .ram 0x8000 :=
  ⟨by decide, by decide, ⟨_, rfl⟩, ⟨State.reset.advance 3, rfl, .abs 0x8000, ⟨0x8000, false⟩, rfl, rfl, rfl⟩, by decide, ⟨_, rfl⟩,
    ⟨State.reset.advance 3, rfl, .abs 0x0010, ⟨0x0010, false⟩, rfl, rfl, rfl⟩, by decide⟩

-- Transactions: the bus of devices, a fetch, the two services, an instruction of each clause.
theorem dev_total : dev.BusTotal := fun addr => by rw [State.refuses, dev_routes]; rfl

theorem test_witness_transactions : (∀ addr, dev.route addr = .device addr) ∧ (∃ bs t, fetchBytes 3 0xFFFF dev = .ok bs t) ∧
    (∃ t, finish (serviceNmi dev) = .next t) ∧ (∃ t, finish (serviceIrq dev) = .next t) ∧
    (∃ t, exec (.ldaZp 0x10) dev = .next t) ∧ (∃ u, HasAddress dev (.ldaZp 0x10) 0x0010 u) ∧
    (∃ t, exec (.staIndx 0xFF) dev = .next t) ∧ (∃ t, exec (.incAbsx 0xFFFF) dev = .next t) ∧
    (∃ t, exec (.jmpInd 0x02FF) dev = .next t) ∧ (∃ t, exec .pha dev = .next t) ∧ (∃ t, exec .plp dev = .next t) ∧
    (∃ t, exec (.jsr 0x9000) dev = .next t) ∧ (∃ t, exec .rts dev = .next t) ∧ (∃ t, exec .rti dev = .next t) ∧
    (∃ t, exec .brk dev = .next t) ∧ (∃ t, exec .aslAcc dev = .next t) ∧ ∃ t, exec (.ldaImm 0x10) dev = .next t :=
  ⟨dev_routes, ⟨_, _, rfl⟩, ⟨_, rfl⟩, ⟨_, rfl⟩, ⟨_, rfl⟩, ⟨dev.advance 2, rfl, .zp 0x10, ⟨0x0010, false⟩, rfl, rfl, rfl⟩,
    ⟨_, storeMem_total dev_total State.a (.indx 0xFF)⟩,
    ⟨_, rfl⟩, ⟨_, rfl⟩, ⟨_, rfl⟩, ⟨_, rfl⟩, ⟨_, rfl⟩, ⟨_, rfl⟩, ⟨_, rfl⟩, ⟨_, rfl⟩, ⟨_, rfl⟩, ⟨_, rfl⟩⟩

-- StepKeepsInvariant.
theorem test_witness_invariant : flat.Inv ∧ ∃ t, step flat = .next t := ⟨⟨rfl, by decide⟩, _, rfl⟩

-- OnlyRamChanges: a store to ROM on the console's map, and the bounds of its two ranges.
theorem test_witness_only_ram :
    let s := State.reset.withFetchWord 24 0x80008D
    s.bus = consoleMap ∧ Memory.wf s.mem = true ∧ step s = .next { s with pc := 0x0003, io := [.write 0x8000 0x00] } ∧
      0x0800 ≥ 0x0800 ∧ (0x8000 : Word).toNat ≥ 0x8000 :=
  ⟨rfl, by decide, rfl, by decide, by decide⟩

end Sys2Proof.Tests
end

section
/-! PROOF. What every step keeps of the state (R40, R50, R68, R4): the run state, the canonical form of memory, the map, the parameters
and the history so far; and where the pending bits stand after it (R38, R39). Both are relations that every named update and every bus
transaction keep, so `InstrRelation` carries them over a whole instruction. -/

namespace Sys2Proof.Machine

/-- A read only adds to the history of outside transactions. -/
theorem State.afterRead_io_prefix (s : State) (addr : Word) : s.io <+: (s.afterRead addr).io := by
  unfold State.afterRead
  split <;> simp

/-- A write only adds to the history of outside transactions. -/
theorem State.poke_io_prefix (s : State) (addr : Word) (v : Byte) : s.io <+: (s.poke addr v).io := by
  unfold State.poke
  split <;> simp

/-- What no part of a step takes away: the run state, the map and the parameters stay, memory in canonical form stays so, the history
only grows. -/
structure State.KeptBy (s t : State) : Prop where
  run : t.run = s.run
  wf : Memory.wf s.mem = true → Memory.wf t.mem = true
  bus : t.bus = s.bus
  params : t.params = s.params
  io : s.io <+: t.io

theorem State.KeptBy.trans {s t u : State} (h : s.KeptBy t) (k : t.KeptBy u) : s.KeptBy u where
  run := k.run.trans h.run
  wf := fun hw => k.wf (h.wf hw)
  bus := k.bus.trans h.bus
  params := k.params.trans h.params
  io := h.io.trans k.io

theorem keptBy_instrRelation : InstrRelation State.KeptBy where
  refl _ := ⟨rfl, id, rfl, rfl, List.prefix_rfl⟩
  trans := State.KeptBy.trans
  withA _ _ := ⟨rfl, id, rfl, rfl, List.prefix_rfl⟩
  withX _ _ := ⟨rfl, id, rfl, rfl, List.prefix_rfl⟩
  withY _ _ := ⟨rfl, id, rfl, rfl, List.prefix_rfl⟩
  withSp _ _ := ⟨rfl, id, rfl, rfl, List.prefix_rfl⟩
  withPc _ _ := ⟨rfl, id, rfl, rfl, List.prefix_rfl⟩
  withP _ _ := ⟨rfl, id, rfl, rfl, List.prefix_rfl⟩
  afterRead s addr := ⟨by simp, by simp, by simp, by simp, s.afterRead_io_prefix addr⟩
  poke s addr v := ⟨by simp, fun hw => State.poke_wf hw addr v, by simp, by simp, s.poke_io_prefix addr v⟩

/-- A step keeps it too, whether service or instruction. -/
theorem step_keptBy {s t : State} (h : step s = .next t) : s.KeptBy t :=
  keptBy_instrRelation.step (fun _ _ => ⟨rfl, id, rfl, rfl, List.prefix_rfl⟩) (fun _ _ => ⟨rfl, id, rfl, rfl, List.prefix_rfl⟩) h

/-- Settles O57: `State.KeptBy` holds across every named update and every bus transaction, so across a step. -/
theorem stepKeepsInvariant : Obligations.StepKeepsInvariant := by
  intro s t hinv h
  obtain ⟨hrun, hwf⟩ := hinv
  have hk := step_keptBy h
  exact ⟨⟨hk.run.trans hrun, hk.wf hwf⟩, hk.bus, hk.params, hk.io⟩

/-- Neither pending bit differs. -/
structure State.SamePending (s t : State) : Prop where
  nmi : t.nmiPending = s.nmiPending
  irq : t.irqPending = s.irqPending

theorem samePending_instrRelation : InstrRelation State.SamePending where
  refl _ := ⟨rfl, rfl⟩
  trans h k := ⟨k.nmi.trans h.nmi, k.irq.trans h.irq⟩
  withA _ _ := ⟨rfl, rfl⟩
  withX _ _ := ⟨rfl, rfl⟩
  withY _ _ := ⟨rfl, rfl⟩
  withSp _ _ := ⟨rfl, rfl⟩
  withPc _ _ := ⟨rfl, rfl⟩
  withP _ _ := ⟨rfl, rfl⟩
  afterRead s addr := ⟨s.afterRead_nmiPending addr, s.afterRead_irqPending addr⟩
  poke s addr v := ⟨s.poke_nmiPending addr v, s.poke_irqPending addr v⟩

/-- Settles O10: no instruction and no trap writes a pending bit; a service clears its own, and R221 says which service it is. -/
theorem pendingBitsAfterStep : Obligations.PendingBitsAfterStep := by
  intro s t h
  obtain ⟨-, ⟨hn, rfl⟩ | ⟨hn, hi, hp, rfl⟩ | ⟨⟨hn, hi⟩, i, u, hf, he⟩⟩ := step_next_cases h
  case inl =>
    simp [(samePending_instrRelation.trapped s false vecNmi).irq, hn]
  case inr.inl =>
    simp [(samePending_instrRelation.trapped s false vecIrq).nmi, hn, hi, hp]
  case inr.inr =>
    obtain ⟨bs, rest, hb, -, -⟩ := fetchInstr_instr hf
    obtain ⟨hnmi, hirq⟩ :=
      samePending_instrRelation.trans (samePending_instrRelation.fetchBytes hb) (samePending_instrRelation.exec he)
    rw [hnmi, hirq, hn]
    rcases hi with hi | hi <;> simp [hi]

end Sys2Proof.Machine
end

section
/-! PROOF. Which registers and flags each instruction can write (R21 to R24, R26, R33). Every executor first moves PC past the
instruction; `OnlyWrites` compares the state after it with that one. One lemma per operation and per instruction shape says what it can
write, and `exec_onlyWrites` collects them in the table `Mnemonic.writes`. -/

namespace Sys2Proof

/-- A register or a flag of the processor (R20, R27). -/
inductive Place where
  | a | x | y | sp | pc | n | v | d | i | z | c
  deriving DecidableEq

/-- What an instruction of this mnemonic can write besides an accumulator operand; PC only where it moves past more than the
instruction (R26, R33). -/
def Mnemonic.writes : Mnemonic → List Place
  | .adc | .sbc => [.a, .n, .v, .z, .c]
  | .and | .ora | .eor | .lda | .txa | .tya => [.a, .n, .z]
  | .ldx | .tax | .tsx | .inx | .dex => [.x, .n, .z]
  | .ldy | .tay | .iny | .dey => [.y, .n, .z]
  | .asl | .lsr | .rol | .ror | .cmp | .cpx | .cpy => [.n, .z, .c]
  | .inc | .dec => [.n, .z]
  | .bit => [.n, .v, .z]
  | .bcc | .bcs | .beq | .bne | .bmi | .bpl | .bvc | .bvs | .jmp => [.pc]
  | .jsr | .rts => [.sp, .pc]
  | .brk => [.sp, .pc, .i]
  | .rti => [.sp, .pc, .n, .v, .d, .i, .z, .c]
  | .pha | .php | .txs => [.sp]
  | .pla => [.a, .sp, .n, .z]
  | .plp => [.sp, .n, .v, .d, .i, .z, .c]
  | .clc | .sec => [.c]
  | .cli | .sei => [.i]
  | .cld | .sed => [.d]
  | .clv => [.v]
  | .nop | .sta | .stx | .sty => []

/-- An accumulator operand is written (R140). -/
def Operand.writes : Operand → List Place
  | .acc => [.a]
  | .imp | .imm _ | .mem _ => []

/-- What an instruction can write. -/
def Instr.writes (i : Instr) : List Place := i.operand.writes ++ i.mnemonic.writes

/-- The table read by place: who writes A beside an accumulator operand, and who writes each other register and flag. -/
def Place.writers : Place → List Mnemonic
  | .a => [.adc, .sbc, .and, .ora, .eor, .lda, .pla, .txa, .tya]
  | .x => [.ldx, .tax, .tsx, .inx, .dex]
  | .y => [.ldy, .tay, .iny, .dey]
  | .sp => [.pha, .php, .pla, .plp, .jsr, .rts, .brk, .rti, .txs]
  | .pc => [.bcc, .bcs, .beq, .bne, .bmi, .bpl, .bvc, .bvs, .jmp, .jsr, .rts, .brk, .rti]
  | .n | .z => [.lda, .ldx, .ldy, .adc, .sbc, .and, .ora, .eor, .asl, .lsr, .rol, .ror, .cmp, .cpx, .cpy, .inc, .dec, .inx, .iny,
      .dex, .dey, .tax, .tay, .txa, .tya, .tsx, .pla, .bit, .plp, .rti]
  | .v => [.adc, .sbc, .bit, .clv, .plp, .rti]
  | .d => [.sed, .cld, .plp, .rti]
  | .i => [.sei, .cli, .brk, .plp, .rti]
  | .c => [.adc, .sbc, .asl, .lsr, .rol, .ror, .cmp, .cpx, .cpy, .sec, .clc, .plp, .rti]

theorem Mnemonic.mem_writers (m : Mnemonic) : ∀ k ∈ m.writes, m ∈ k.writers := by
  cases m <;> decide

theorem Operand.mem_writes {o : Operand} {k : Place} (h : k ∈ o.writes) : k = .a ∧ o = .acc := by
  cases o with
  | acc => exact ⟨List.mem_singleton.1 h, rfl⟩
  | imp | imm _ | mem _ => cases h

/-- An instruction that is none of a place's writers does not write it; A may be its operand besides. -/
theorem Instr.not_mem_writes {i : Instr} (k : Place) (hm : i.mnemonic ∉ k.writers) (ha : k = .a → i.operand ≠ .acc) :
    k ∉ i.writes := by
  intro h
  rcases List.mem_append.1 h with h | h
  · obtain ⟨hk, ho⟩ := Operand.mem_writes h
    exact ha hk ho
  · exact hm (i.mnemonic.mem_writers k h)

namespace Machine

/-- Between the states the registers and flags differ at most in these. -/
structure OnlyWrites (ws : List Place) (s t : State) : Prop where
  a : .a ∉ ws → t.a = s.a
  x : .x ∉ ws → t.x = s.x
  y : .y ∉ ws → t.y = s.y
  sp : .sp ∉ ws → t.sp = s.sp
  pc : .pc ∉ ws → t.pc = s.pc
  n : .n ∉ ws → t.p.n = s.p.n
  v : .v ∉ ws → t.p.v = s.p.v
  d : .d ∉ ws → t.p.d = s.p.d
  i : .i ∉ ws → t.p.i = s.p.i
  z : .z ∉ ws → t.p.z = s.p.z
  c : .c ∉ ws → t.p.c = s.p.c

theorem OnlyWrites.trans {ws : List Place} {s t u : State} (h : OnlyWrites ws s t) (k : OnlyWrites ws t u) :
    OnlyWrites ws s u where
  a hw := (k.a hw).trans (h.a hw)
  x hw := (k.x hw).trans (h.x hw)
  y hw := (k.y hw).trans (h.y hw)
  sp hw := (k.sp hw).trans (h.sp hw)
  pc hw := (k.pc hw).trans (h.pc hw)
  n hw := (k.n hw).trans (h.n hw)
  v hw := (k.v hw).trans (h.v hw)
  d hw := (k.d hw).trans (h.d hw)
  i hw := (k.i hw).trans (h.i hw)
  z hw := (k.z hw).trans (h.z hw)
  c hw := (k.c hw).trans (h.c hw)

/-! The operations. Those that touch no register and no flag only write within any list. -/

section
variable (ws : List Place) (s : State)

theorem onlyWrites_refl : OnlyWrites ws s s := by constructor <;> simp

theorem onlyWrites_afterRead (addr : Word) : OnlyWrites ws s (s.afterRead addr) := by constructor <;> simp

theorem onlyWrites_poke (addr : Word) (b : Byte) : OnlyWrites ws s (s.poke addr b) := by constructor <;> simp

/-- Resolving an operand writes no flag. -/
@[simp] theorem State.atOperand_p (m : MemOperand) : (s.atOperand m).p = s.p := by
  rw [State.atOperand_eq]
  rfl

theorem onlyWrites_afterResolve (m : MemOperand) : OnlyWrites ws s (s.afterResolve m) := by
  rw [State.afterResolve_eq]
  constructor <;> simp

/-- Resolving an operand leaves PC past the instruction and everything else as it was. -/
theorem onlyWrites_atOperand (m : MemOperand) : OnlyWrites ws (s.advance m.mode.length) (s.atOperand m) :=
  onlyWrites_afterResolve ws _ m

end

section
variable (s : State) (b : Byte)

theorem onlyWrites_loadA : OnlyWrites [.a, .n, .z] s (loadA b s) := by constructor <;> simp

theorem onlyWrites_loadX : OnlyWrites [.x, .n, .z] s (loadX b s) := by constructor <;> simp

theorem onlyWrites_loadY : OnlyWrites [.y, .n, .z] s (loadY b s) := by constructor <;> simp

theorem onlyWrites_withSp : OnlyWrites [.sp] s (s.withSp b) := by constructor <;> simp

theorem onlyWrites_withPc (w : Word) : OnlyWrites [.pc] s (s.withPc w) := by constructor <;> simp

theorem onlyWrites_setArith (r : AluResult) : OnlyWrites [.a, .n, .v, .z, .c] s (setArith r s) := by
  constructor <;> simp [setArith]

theorem onlyWrites_adcA : OnlyWrites [.a, .n, .v, .z, .c] s (adcA b s) := onlyWrites_setArith s _

theorem onlyWrites_sbcA : OnlyWrites [.a, .n, .v, .z, .c] s (sbcA b s) := onlyWrites_setArith s _

theorem onlyWrites_andA : OnlyWrites [.a, .n, .z] s (andA b s) := onlyWrites_loadA s _

theorem onlyWrites_oraA : OnlyWrites [.a, .n, .z] s (oraA b s) := onlyWrites_loadA s _

theorem onlyWrites_eorA : OnlyWrites [.a, .n, .z] s (eorA b s) := onlyWrites_loadA s _

theorem onlyWrites_bitA : OnlyWrites [.n, .v, .z] s (bitA b s) := by constructor <;> simp

theorem onlyWrites_compareWith (reg : State → Byte) : OnlyWrites [.n, .z, .c] s (compareWith reg b s) := by
  constructor <;> simp

theorem onlyWrites_setZN (v : Byte) : OnlyWrites [.n, .z] s (s.withP (s.p.setZN v)) := by constructor <;> simp

theorem onlyWrites_setShift (r : Shifted) : OnlyWrites [.n, .z, .c] s (s.withP (s.p.setShift r)) := by
  constructor <;> simp

theorem onlyWrites_withC (f : Bool) : OnlyWrites [.c] s (s.withP { s.p with c := f }) := by constructor <;> simp

theorem onlyWrites_withI (f : Bool) : OnlyWrites [.i] s (s.withP { s.p with i := f }) := by constructor <;> simp

theorem onlyWrites_withD (f : Bool) : OnlyWrites [.d] s (s.withP { s.p with d := f }) := by constructor <;> simp

theorem onlyWrites_withV (f : Bool) : OnlyWrites [.v] s (s.withP { s.p with v := f }) := by constructor <;> simp

end

/-! The instruction shapes. -/

section
variable {ws : List Place} {s t : State}

theorem readImm_onlyWrites {use : Byte → State → State} (hu : ∀ u b, OnlyWrites ws u (use b u)) {b : Byte}
    (h : readImm use b s = .next t) : OnlyWrites ws (s.advance 2) t := by
  rw [readImm_eq] at h
  cases h
  exact hu _ b

theorem readMem_onlyWrites {use : Byte → State → State} (hu : ∀ u b, OnlyWrites ws u (use b u)) {m : MemOperand}
    (h : readMem use m s = .next t) : OnlyWrites ws (s.advance m.mode.length) t := by
  rw [readMem_next h]
  exact (onlyWrites_atOperand ws s m).trans <| (onlyWrites_afterRead ws _ _).trans (hu _ _)

theorem storeMem_onlyWrites {value : State → Byte} {m : MemOperand} (h : storeMem value m s = .next t) :
    OnlyWrites ws (s.advance m.mode.length) t := by
  rw [storeMem_next h]
  exact (onlyWrites_atOperand ws s m).trans (onlyWrites_poke ws _ _ _)

theorem implied_onlyWrites {change : State → State} (hc : ∀ u, OnlyWrites ws u (change u)) (h : implied change s = .next t) :
    OnlyWrites ws (s.advance 1) t := by
  rw [implied_eq] at h
  cases h
  exact hc _

theorem shiftAcc_onlyWrites {f : Byte → Bool → Shifted} (h : shiftAcc f s = .next t) :
    OnlyWrites [.a, .n, .z, .c] (s.advance 1) t := by
  rw [shiftAcc_eq] at h
  cases h
  constructor <;> simp

theorem shiftMem_onlyWrites {f : Byte → Bool → Shifted} {m : MemOperand} (h : shiftMem f m s = .next t) :
    OnlyWrites [.n, .z, .c] (s.advance m.mode.length) t := by
  rw [shiftMem_next h]
  have hp : s.p = ((s.atOperand m).afterRead (s.ea m)).p := by simp
  rw [hp]
  exact (onlyWrites_atOperand _ s m).trans <| (onlyWrites_afterRead _ _ _).trans <|
    (onlyWrites_setShift _ _).trans (onlyWrites_poke _ _ _ _)

theorem bumpMem_onlyWrites {f : Byte → Byte} {m : MemOperand} (h : bumpMem f m s = .next t) :
    OnlyWrites [.n, .z] (s.advance m.mode.length) t := by
  rw [bumpMem_next h]
  generalize f _ = b
  have hp : s.p = (((s.atOperand m).afterRead (s.ea m)).poke (s.ea m) b).p := by simp
  rw [hp]
  exact (onlyWrites_atOperand _ s m).trans <| (onlyWrites_afterRead _ _ _).trans <|
    (onlyWrites_poke _ _ _ _).trans (onlyWrites_setZN _ _)

theorem branchIf_onlyWrites {cond : Bool} {d : Byte} (h : branchIf cond d s = .next t) :
    OnlyWrites [.pc] (s.advance 2) t := by
  rw [branchIf_eq] at h
  cases cond <;> cases h
  · exact onlyWrites_refl _ _
  · exact onlyWrites_withPc _ _

theorem jumpTo_onlyWrites {m : MemOperand} (h : jumpTo m s = .next t) : OnlyWrites [.pc] (s.advance m.mode.length) t := by
  rw [jumpTo_next h]
  exact (onlyWrites_atOperand _ s m).trans (onlyWrites_withPc _ _)

theorem jsr_onlyWrites {w : Word} (h : execJsr w s = .next t) : OnlyWrites [.sp, .pc] (s.advance 3) t := by
  rw [execJsr_next h, State.pushed_pushed]
  constructor <;> simp

theorem rts_onlyWrites (h : execRts s = .next t) : OnlyWrites [.sp, .pc] (s.advance 1) t := by
  rw [execRts_next h, State.pulled_pulled]
  constructor <;> simp [State.afterReadWord]

theorem rti_onlyWrites (h : execRti s = .next t) : OnlyWrites [.sp, .pc, .n, .v, .d, .i, .z, .c] (s.advance 1) t := by
  rw [execRti_next h, State.returned_eq]
  constructor <;> simp [State.afterReadWord]

theorem brk_onlyWrites (h : execBrk s = .next t) : OnlyWrites [.sp, .pc, .i] (s.advance 1) t := by
  rw [execBrk_next h, State.trapped_eq]
  constructor <;> simp [State.trapEntry]

theorem pha_onlyWrites (h : execPha s = .next t) : OnlyWrites [.sp] (s.advance 1) t := by
  rw [execPha_next h]
  constructor <;> simp [State.pushed]

theorem php_onlyWrites (h : execPhp s = .next t) : OnlyWrites [.sp] (s.advance 1) t := by
  rw [execPhp_next h]
  constructor <;> simp [State.pushed]

theorem pla_onlyWrites (h : execPla s = .next t) : OnlyWrites [.a, .sp, .n, .z] (s.advance 1) t := by
  rw [execPla_next h]
  constructor <;> simp [State.pulled]

theorem plp_onlyWrites (h : execPlp s = .next t) : OnlyWrites [.sp, .n, .v, .d, .i, .z, .c] (s.advance 1) t := by
  rw [execPlp_next h]
  constructor <;> simp [State.pulled]

end

/-- An instruction moves PC past itself and then writes no register and no flag outside the table. Each `( :)` lets the shape's lemma
take its operand from `h` before its lists and lengths meet those of the table. -/
theorem exec_onlyWrites {i : Instr} {s t : State} (h : exec i s = .next t) : OnlyWrites i.writes (s.advance i.length) t := by
  cases i with
  | adcImm _ => exact (readImm_onlyWrites onlyWrites_adcA h :)
  | adcIndx _ | adcZp _ | adcAbs _ | adcIndy _ | adcZpx _ | adcAbsy _ | adcAbsx _ =>
    exact (readMem_onlyWrites onlyWrites_adcA h :)
  | sbcImm _ => exact (readImm_onlyWrites onlyWrites_sbcA h :)
  | sbcIndx _ | sbcZp _ | sbcAbs _ | sbcIndy _ | sbcZpx _ | sbcAbsy _ | sbcAbsx _ =>
    exact (readMem_onlyWrites onlyWrites_sbcA h :)
  | andImm _ => exact (readImm_onlyWrites onlyWrites_andA h :)
  | andIndx _ | andZp _ | andAbs _ | andIndy _ | andZpx _ | andAbsy _ | andAbsx _ =>
    exact (readMem_onlyWrites onlyWrites_andA h :)
  | oraImm _ => exact (readImm_onlyWrites onlyWrites_oraA h :)
  | oraIndx _ | oraZp _ | oraAbs _ | oraIndy _ | oraZpx _ | oraAbsy _ | oraAbsx _ =>
    exact (readMem_onlyWrites onlyWrites_oraA h :)
  | eorImm _ => exact (readImm_onlyWrites onlyWrites_eorA h :)
  | eorIndx _ | eorZp _ | eorAbs _ | eorIndy _ | eorZpx _ | eorAbsy _ | eorAbsx _ =>
    exact (readMem_onlyWrites onlyWrites_eorA h :)
  | ldaImm _ => exact (readImm_onlyWrites onlyWrites_loadA h :)
  | ldaIndx _ | ldaZp _ | ldaAbs _ | ldaIndy _ | ldaZpx _ | ldaAbsy _ | ldaAbsx _ =>
    exact (readMem_onlyWrites onlyWrites_loadA h :)
  | ldxImm _ => exact (readImm_onlyWrites onlyWrites_loadX h :)
  | ldxZp _ | ldxAbs _ | ldxZpy _ | ldxAbsy _ => exact (readMem_onlyWrites onlyWrites_loadX h :)
  | ldyImm _ => exact (readImm_onlyWrites onlyWrites_loadY h :)
  | ldyZp _ | ldyAbs _ | ldyZpx _ | ldyAbsx _ => exact (readMem_onlyWrites onlyWrites_loadY h :)
  | bitZp _ | bitAbs _ => exact (readMem_onlyWrites onlyWrites_bitA h :)
  | cmpImm _ | cpxImm _ | cpyImm _ => exact (readImm_onlyWrites (fun u b => onlyWrites_compareWith u b _) h :)
  | cmpIndx _ | cmpZp _ | cmpAbs _ | cmpIndy _ | cmpZpx _ | cmpAbsy _ | cmpAbsx _
  | cpxZp _ | cpxAbs _ | cpyZp _ | cpyAbs _ => exact (readMem_onlyWrites (fun u b => onlyWrites_compareWith u b _) h :)
  | aslAcc | lsrAcc | rolAcc | rorAcc => exact (shiftAcc_onlyWrites h :)
  | aslZp _ | aslAbs _ | aslZpx _ | aslAbsx _ | lsrZp _ | lsrAbs _ | lsrZpx _ | lsrAbsx _
  | rolZp _ | rolAbs _ | rolZpx _ | rolAbsx _ | rorZp _ | rorAbs _ | rorZpx _ | rorAbsx _ => exact (shiftMem_onlyWrites h :)
  | incZp _ | incAbs _ | incZpx _ | incAbsx _ | decZp _ | decAbs _ | decZpx _ | decAbsx _ => exact (bumpMem_onlyWrites h :)
  | staIndx _ | staZp _ | staAbs _ | staIndy _ | staZpx _ | staAbsy _ | staAbsx _
  | stxZp _ | stxAbs _ | stxZpy _ | styZp _ | styAbs _ | styZpx _ => exact (storeMem_onlyWrites h :)
  | bcc _ | bcs _ | beq _ | bmi _ | bne _ | bpl _ | bvc _ | bvs _ => exact (branchIf_onlyWrites h :)
  | jmpAbs w => exact (jumpTo_onlyWrites (m := .abs w) h :)
  | jmpInd w => exact (jumpTo_onlyWrites (m := .ind w) h :)
  | jsr _ => exact (jsr_onlyWrites h :)
  | rts => exact (rts_onlyWrites h :)
  | rti => exact (rti_onlyWrites h :)
  | brk => exact (brk_onlyWrites h :)
  | pha => exact (pha_onlyWrites h :)
  | php => exact (php_onlyWrites h :)
  | pla => exact (pla_onlyWrites h :)
  | plp => exact (plp_onlyWrites h :)
  | clc | sec => exact (implied_onlyWrites (fun u => onlyWrites_withC u _) h :)
  | cli | sei => exact (implied_onlyWrites (fun u => onlyWrites_withI u _) h :)
  | cld | sed => exact (implied_onlyWrites (fun u => onlyWrites_withD u _) h :)
  | clv => exact (implied_onlyWrites (fun u => onlyWrites_withV u _) h :)
  | nop => exact (implied_onlyWrites (onlyWrites_refl _) h :)
  | tax | tsx | inx | dex => exact (implied_onlyWrites (fun u => onlyWrites_loadX u _) h :)
  | tay | iny | dey => exact (implied_onlyWrites (fun u => onlyWrites_loadY u _) h :)
  | txa | tya => exact (implied_onlyWrites (fun u => onlyWrites_loadA u _) h :)
  | txs => exact (implied_onlyWrites (fun u => onlyWrites_withSp u _) h :)

/-- Settles O53: the table of `exec_onlyWrites`, read for each register. -/
theorem registerWriters : Obligations.RegisterWriters := by
  intro i s t h
  have hw := exec_onlyWrites h
  exact ⟨fun hm ha => hw.a (Instr.not_mem_writes .a hm fun _ => ha), fun hm => hw.x (Instr.not_mem_writes .x hm nofun),
    fun hm => hw.y (Instr.not_mem_writes .y hm nofun), fun hm => hw.sp (Instr.not_mem_writes .sp hm nofun),
    fun hm => hw.pc (Instr.not_mem_writes .pc hm nofun)⟩

/-- Settles O54: the table of `exec_onlyWrites`, read for each flag. -/
theorem flagWriters : Obligations.FlagWriters := by
  intro i s t h
  have hw := exec_onlyWrites h
  exact ⟨fun hm => ⟨hw.n (Instr.not_mem_writes .n hm nofun), hw.z (Instr.not_mem_writes .z hm nofun)⟩,
    fun hm => hw.v (Instr.not_mem_writes .v hm nofun), fun hm => hw.d (Instr.not_mem_writes .d hm nofun),
    fun hm => hw.i (Instr.not_mem_writes .i hm nofun), fun hm => hw.c (Instr.not_mem_writes .c hm nofun)⟩

end Machine

end Sys2Proof
end

section
/-! PROOF. The state after reset, the owner's calls, the status byte (R30, R31, R37 to R39, R43, R44, R52). -/

namespace Sys2Proof.Machine

/-- A map refuses exactly the addresses none of its regions holds (R52, R68). -/
theorem routeIn_eq_refused {map : BusMap} {a : Nat} : routeIn map a = .refused ↔ ∀ r ∈ map, ¬ (r.first ≤ a ∧ a ≤ r.last) := by
  induction map with
  | nil => simp [routeIn]
  | cons r rs ih =>
    rw [routeIn, List.forall_mem_cons]
    split
    case isTrue hr =>
      have hne : regionRoute r a ≠ .refused := by
        unfold regionRoute
        split <;> nofun
      simp [hr, hne]
    case isFalse hr => simp [hr, ih]

/-- The console's map refuses no address: its five regions cover the address space (R68). -/
theorem consoleMap_total {s : State} (h : s.bus = consoleMap) : s.BusTotal := by
  intro addr
  have hlt := addr.isLt
  rw [State.refuses, beq_eq_false_iff_ne, State.route, h, Ne, routeIn_eq_refused]
  simp only [consoleMap, List.forall_mem_cons, not_and_or]
  omega

/-- The call of `reset()` on the machine as created answers the reset state: the vector's cells are unlisted. -/
theorem resetCall_powerOn : resetCall State.powerOn = .ok () State.reset := rfl

/-- Settles O7: by running `reset()` on the machine as created. -/
theorem resetState : Obligations.ResetState :=
  ⟨resetCall_powerOn, rfl, rfl, rfl, rfl, rfl, rfl, rfl, rfl, rfl, rfl, rfl, rfl, rfl, rfl, rfl, rfl, rfl, rfl, rfl⟩

/-- Settles O9: each call is the write of its one field. -/
theorem ownerCalls : Obligations.OwnerCalls := fun _ => ⟨rfl, rfl, rfl, rfl⟩

/-- The byte pushed for P has its flags, the reserved bit and the break bit at the positions of R28. -/
theorem Flags.pbyte_bits : ∀ n v d i z c b : Bool,
    let w := (Flags.mk n v d i z c).pbyte b
    w.getLsbD 7 = n ∧ w.getLsbD 6 = v ∧ w.getLsbD 5 = true ∧ w.getLsbD 4 = b ∧ w.getLsbD 3 = d ∧ w.getLsbD 2 = i ∧
      w.getLsbD 1 = z ∧ w.getLsbD 0 = c := by
  decide

/-- Settles O15: the pushed byte's bits, which `Flags.ofByte` reads back at the same positions. -/
theorem statusByte : Obligations.StatusByte := by
  refine ⟨fun p b => ?_, fun v => rfl⟩
  obtain ⟨n, v, d, i, z, c⟩ := p
  obtain ⟨h7, h6, h5, h4, h3, h2, h1, h0⟩ := Flags.pbyte_bits n v d i z c b
  refine ⟨h7, h6, h5, h4, h3, h2, h1, h0, ?_⟩
  simp only [Flags.ofByte, bit, h7, h6, h3, h2, h1, h0]

/-- Settles O58: reset runs with no cell listed, on the console's map. -/
theorem resetInvariant : Obligations.ResetInvariant := ⟨⟨rfl, rfl⟩, consoleMap_total rfl⟩

end Sys2Proof.Machine
end

section
/-! PROOF. The bus by the kind of an address (R53, R57, R241), the console's map (R68), the stack at 0x0100 + SP (R62 to R65), and the
cells a step can change (R68). -/

namespace Sys2Proof.Machine

/-! One rule per bus operation and kind of address. -/

section
variable {s : State} {addr r : Word} {k : Nat}

theorem State.refuses_eq_true_iff : s.refuses addr = true ↔ s.route addr = .refused := by
  simp [State.refuses]

theorem State.refuses_eq_false_iff : s.refuses addr = false ↔ s.route addr ≠ .refused := by
  simp [State.refuses]

theorem State.peek_ram (h : s.route addr = .ram k) : s.peek addr = s.mem.read k := by
  simp [State.peek, h]

theorem State.peek_rom (h : s.route addr = .rom k) : s.peek addr = s.mem.read k := by
  simp [State.peek, h]

theorem State.peek_device (h : s.route addr = .device r) : s.peek addr = Config.deviceRead s.io r := by
  simp [State.peek, h]

theorem State.afterRead_ram (h : s.route addr = .ram k) : s.afterRead addr = s := by
  simp [State.afterRead, h]

theorem State.afterRead_rom (h : s.route addr = .rom k) : s.afterRead addr = s := by
  simp [State.afterRead, h]

theorem State.afterRead_device (h : s.route addr = .device r) : s.afterRead addr = s.withIo (s.io ++ [.read r]) := by
  simp [State.afterRead, h]

variable (v : Byte)

theorem State.poke_ram (h : s.route addr = .ram k) : s.poke addr v = s.withMem (s.mem.write k v) := by
  simp [State.poke, h]

theorem State.poke_rom (h : s.route addr = .rom k) :
    s.poke addr v = s.withIo (s.io ++ [.write (BitVec.ofNat 16 k) v]) := by
  simp [State.poke, h]

theorem State.poke_device (h : s.route addr = .device r) : s.poke addr v = s.withIo (s.io ++ [.write r v]) := by
  simp [State.poke, h]

theorem busRead_answered (h : s.route addr ≠ .refused) : busRead s addr = .ok (s.peek addr) (s.afterRead addr) :=
  busRead_eq_ok.2 ⟨State.refuses_eq_false_iff.2 h, rfl, rfl⟩

theorem busWrite_answered (h : s.route addr ≠ .refused) : busWrite s addr v = .ok () (s.poke addr v) :=
  busWrite_eq_ok.2 ⟨State.refuses_eq_false_iff.2 h, rfl⟩

end

/-- Settles O11: the rules of a read, by the kind of the address. -/
theorem busReads : Obligations.BusReads := by
  intro s addr
  refine ⟨fun k h => ?_, fun k h => ?_, fun r h => ?_, fun h => busRead_refused (State.refuses_eq_true_iff.2 h)⟩
  · rw [busRead_answered (by simp [h]), State.peek_ram h, State.afterRead_ram h]
  · rw [busRead_answered (by simp [h]), State.peek_rom h, State.afterRead_rom h]
  · rw [busRead_answered (by simp [h]), State.peek_device h, State.afterRead_device h]
    rfl

/-- Settles O12: the rules of a write, by the kind of the address; a cell of RAM lies in the address space, so the canonical form
stays. -/
theorem busWrites : Obligations.BusWrites := by
  intro s addr v hw
  refine ⟨fun k h => ?_, fun k h => ?_, fun r h => ?_, fun h => busWrite_refused (State.refuses_eq_true_iff.2 h) v⟩
  · rw [busWrite_answered v (by simp [h]), State.poke_ram v h]
    exact ⟨_, rfl, rfl, Memory.write_wf _ _ _ hw (State.route_cell_lt (.inl h)), fun j => Memory.read_write _ _ _ _ hw⟩
  · rw [busWrite_answered v (by simp [h]), State.poke_rom v h]
    rfl
  · rw [busWrite_answered v (by simp [h]), State.poke_device v h]
    rfl

/-! The console's map. -/

/-- The owner of each address on the console's map (R68). -/
theorem consoleMap_route {s : State} (h : s.bus = consoleMap) (addr : Word) :
    s.route addr =
      if addr.toNat < 0x2000 then .ram (addr.toNat % 0x0800)
      else if addr.toNat < 0x4000 then .device (BitVec.ofNat 16 (0x2000 + addr.toNat % 8))
      else if addr.toNat < 0x8000 then .device addr
      else .rom addr.toNat := by
  have hlt := addr.isLt
  have hself : ∀ n, n = addr.toNat → BitVec.ofNat 16 n = addr := by
    rintro _ rfl
    rw [BitVec.ofNat_toNat, BitVec.setWidth_eq]
  rw [State.route, h]
  simp only [consoleMap, routeIn, regionRoute, regionCell]
  split_ifs
  any_goals omega
  · rw [Nat.zero_add, Nat.sub_zero]
  · rw [show (addr.toNat - 0x2000) % 8 = addr.toNat % 8 by omega]
  · rw [hself _ (by omega)]
  · rw [hself _ (by omega)]
  · rw [show 0x8000 + (addr.toNat - 0x8000) % 0x8000 = addr.toNat by omega]

/-- Settles O13: the five regions cover the address space, and `consoleMap_route` names the owner. -/
theorem consoleMap_owners : Obligations.ConsoleMap := fun _ addr h => ⟨consoleMap_total h addr, consoleMap_route h addr⟩

/-! The stack. -/

theorem slot_toNat (sp : Byte) : (slot sp).toNat = 0x0100 + sp.toNat := by
  rw [← stackAddr_eq_slot, stackAddr, word_toNat]
  rfl

/-- Where the stack is memory, a pull gives back what was pushed and leaves nothing but the written cell (R62, R63). -/
theorem pull_pushed {s : State} (hb : s.BusTotal) (hr : s.StackIsRam) (hw : Memory.wf s.mem = true) (v : Byte) :
    pull (s.pushed v) = .ok v { s with mem := (s.pushed v).mem } := by
  obtain ⟨cell, -, hcell⟩ := hr
  have hsp : s.sp - 1 + 1 = s.sp := by bv_omega
  have hroute : (s.poke (slot s.sp) v).route (slot s.sp) = .ram (cell s.sp) := by
    rw [State.route_congr (State.poke_bus ..), hcell]
  have htop : (s.pushed v).top = v := by
    rw [State.top_eq_slot, State.pushed_eq_slot, State.peek_withSp, State.withSp_sp, hsp, State.peek_ram hroute,
      State.poke_ram v (hcell s.sp), State.withMem_mem, Memory.read_write _ _ _ _ hw, if_pos rfl]
  have hpulled : (s.pushed v).pulled = { s with mem := (s.pushed v).mem } := by
    rw [State.pulled_eq_slot, State.pushed_eq_slot, State.afterRead_withSp, State.withSp_sp, hsp,
      State.afterRead_ram hroute, State.poke_ram v (hcell s.sp)]
    rfl
  rw [pull_total (hb.of_bus (State.pushed_bus s v)), htop, hpulled]

/-- Settles O14: the rules of push and pull, written with `slot`. -/
theorem stackAccess : Obligations.StackAccess := by
  refine ⟨slot_toNat, fun s v hb => ?_, fun s hb => ?_, fun s w hb => ?_, fun s hb => ?_, fun s v hb hr hw =>
    ⟨_, push_total hb v, pull_pushed hb hr hw v⟩⟩
  · rw [push_total hb, State.pushed_eq_slot]
    rfl
  · rw [pull_total hb, State.top_eq_slot, State.pulled_eq_slot]
    rfl
  · rw [pushWord_total hb, State.pushed_pushed]
    rfl
  · rw [pullWord_total hb, State.top_top, State.pulled_pulled]
    rfl

/-! The cells a step can change. -/

/-- A write changes no cell but the RAM cell the address names. -/
theorem State.poke_mem_read {s : State} (hw : Memory.wf s.mem = true) {addr : Word} (v : Byte) {k : Nat}
    (h : s.route addr ≠ .ram k) : (s.poke addr v).mem.read k = s.mem.read k := by
  cases hr : s.route addr with
  | ram j =>
    have hkj : k ≠ j := fun e => h (by rw [hr, e])
    rw [State.poke_ram v hr, State.withMem_mem, Memory.read_write _ _ _ _ hw, if_neg hkj]
  | rom j => rw [State.poke_rom v hr, State.withIo_mem]
  | device r => rw [State.poke_device v hr, State.withIo_mem]
  | refused => simp [State.poke, hr]

/-- A read of a cell answers the same in two states with the same map and the same byte in the cell. -/
theorem State.peek_cell {s t : State} {addr : Word} {k : Nat} (hb : t.bus = s.bus)
    (hk : s.route addr = .ram k ∨ s.route addr = .rom k) (hm : t.mem.read k = s.mem.read k) : t.peek addr = s.peek addr := by
  have ht := State.route_congr hb addr
  rcases hk with h | h
  · rw [State.peek_ram h, State.peek_ram (ht.trans h), hm]
  · rw [State.peek_rom h, State.peek_rom (ht.trans h), hm]

/-- Besides what `State.KeptBy` says, a cell that no address names as RAM keeps its byte. -/
structure State.OnlyRamBy (s t : State) : Prop extends State.KeptBy s t where
  cells : Memory.wf s.mem = true → ∀ k, (∀ addr, s.route addr ≠ .ram k) → t.mem.read k = s.mem.read k

theorem State.OnlyRamBy.trans {s t u : State} (h : s.OnlyRamBy t) (k : t.OnlyRamBy u) : s.OnlyRamBy u where
  toKeptBy := h.toKeptBy.trans k.toKeptBy
  cells hw c hc := by
    rw [k.cells (h.wf hw) c fun addr => by rw [State.route_congr h.bus]; exact hc addr, h.cells hw c hc]

/-- An update that leaves every cell keeps `State.OnlyRamBy`. -/
theorem State.KeptBy.onlyRamBy {s t : State} (h : s.KeptBy t) (hm : t.mem = s.mem) : s.OnlyRamBy t :=
  ⟨h, fun _ _ _ => by rw [hm]⟩

theorem onlyRamBy_instrRelation : InstrRelation State.OnlyRamBy where
  refl s := (keptBy_instrRelation.refl s).onlyRamBy rfl
  trans := State.OnlyRamBy.trans
  withA s v := (keptBy_instrRelation.withA s v).onlyRamBy rfl
  withX s v := (keptBy_instrRelation.withX s v).onlyRamBy rfl
  withY s v := (keptBy_instrRelation.withY s v).onlyRamBy rfl
  withSp s v := (keptBy_instrRelation.withSp s v).onlyRamBy rfl
  withPc s v := (keptBy_instrRelation.withPc s v).onlyRamBy rfl
  withP s v := (keptBy_instrRelation.withP s v).onlyRamBy rfl
  afterRead s addr := (keptBy_instrRelation.afterRead s addr).onlyRamBy (State.afterRead_mem s addr)
  poke s addr v := ⟨keptBy_instrRelation.poke s addr v, fun hw _ hk => State.poke_mem_read hw v (hk addr)⟩

/-- A step keeps it, whether service or instruction: a service's write of a pending bit touches no cell. -/
theorem step_onlyRamBy {s t : State} (h : step s = .next t) : s.OnlyRamBy t :=
  onlyRamBy_instrRelation.step (fun _ _ => ⟨⟨rfl, id, rfl, rfl, List.prefix_rfl⟩, fun _ _ _ => rfl⟩)
    (fun _ _ => ⟨⟨rfl, id, rfl, rfl, List.prefix_rfl⟩, fun _ _ _ => rfl⟩) h

/-- On the console's map RAM has the 2048 cells below 0x0800 (R68). -/
theorem consoleMap_ram_lt {s : State} (h : s.bus = consoleMap) {addr : Word} {k : Nat} (hr : s.route addr = .ram k) :
    k < 0x0800 := by
  rw [consoleMap_route h] at hr
  split_ifs at hr
  cases hr
  exact Nat.mod_lt _ (by decide)

theorem consoleMap_rom {s : State} (h : s.bus = consoleMap) {addr : Word} (ha : addr.toNat ≥ 0x8000) :
    s.route addr = .rom addr.toNat := by
  rw [consoleMap_route h, if_neg (by omega), if_neg (by omega), if_neg (by omega)]

/-- Settles O59: `State.OnlyRamBy` holds across a step, and on the console's map no address names a RAM cell from 0x0800 on, where the
ROM's cells lie. -/
theorem onlyRamChanges : Obligations.OnlyRamChanges := by
  intro s t hb hw h
  have hk := step_onlyRamBy h
  have hcells : ∀ k, k ≥ 0x0800 → t.mem.read k = s.mem.read k := fun k hge =>
    hk.cells hw k fun _ hr => absurd (consoleMap_ram_lt hb hr) (by omega)
  exact ⟨hk.bus.trans hb, hk.wf hw, hcells, fun addr ha =>
    State.peek_cell hk.bus (.inr (consoleMap_rom hb ha)) (hcells _ (by omega))⟩

end Sys2Proof.Machine
end

section
/-! PROOF. The transactions of each instruction (R57, R58, R222) and what they leave: `mnemonicEvents` is the table, `Issues` says what a
list of transactions does to memory and to the history, one lemma per operation and per instruction shape, and `exec_issues` collects
them. The frame of memory and the order of the transactions are read off the table; and on a total bus every instruction completes. -/

namespace Sys2Proof

/-- The mnemonic of an instruction exists in its mode (R86). -/
theorem Instr.wellFormed_eq_true (i : Instr) : i.wellFormed = true := by
  cases i <;> rfl

/-- Only the read-type mnemonics have the immediate mode (R86). -/
theorem Mnemonic.mem_readTypes_of_imm (m : Mnemonic) : m.modes.contains .imm = true → m ∈ Machine.readTypes := by
  cases m <;> decide

/-- Only mnemonics whose memory forms are read-modify-write have the accumulator mode (R86). -/
theorem Mnemonic.mem_rmwTypes_of_acc (m : Mnemonic) : m.modes.contains .acc = true → m ∈ Machine.rmwTypes := by
  cases m <;> decide

theorem Instr.mem_readTypes_of_imm {i : Instr} {v : Byte} (h : i.operand = .imm v) : i.mnemonic ∈ Machine.readTypes := by
  have hw : i.mnemonic.modes.contains i.operand.mode = true := i.wellFormed_eq_true
  rw [h] at hw
  exact i.mnemonic.mem_readTypes_of_imm hw

theorem Instr.mem_rmwTypes_of_acc {i : Instr} (h : i.operand = .acc) : i.mnemonic ∈ Machine.rmwTypes := by
  have hw : i.mnemonic.modes.contains i.operand.mode = true := i.wellFormed_eq_true
  rw [h] at hw
  exact i.mnemonic.mem_rmwTypes_of_acc hw

namespace Machine

/-! The table of transactions. -/

/-- The transactions of a memory operand: its pointer reads, then those at the effective address. An operand without an address has
none. -/
def operandEvents (s : State) (access : Word → List BusEvent) : Operand → List BusEvent
  | .mem m => pointerReads s m ++ access (s.ea m)
  | .imp | .acc | .imm _ => []

/-- The transactions of an instruction of this mnemonic and operand after its own bytes were read, where `h`, `l` and `p` are the bytes
it writes (R57, R58). -/
def mnemonicEvents (s : State) (o : Operand) (h l p : Byte) : Mnemonic → List BusEvent
  | .lda | .ldx | .ldy | .adc | .sbc | .and | .ora | .eor | .cmp | .cpx | .cpy | .bit => operandEvents s (fun a => [.read a]) o
  | .sta | .stx | .sty => operandEvents s (fun a => [.write a h]) o
  | .asl | .lsr | .rol | .ror | .inc | .dec => operandEvents s (fun a => [.read a, .write a h]) o
  | .jmp => operandEvents s (fun _ => []) o
  | .pha | .php => [.write (slot s.sp) h]
  | .pla | .plp => [.read (slot (s.sp + 1))]
  | .jsr => [.write (slot s.sp) h, .write (slot (s.sp - 1)) l]
  | .rts => [.read (slot (s.sp + 1)), .read (slot (s.sp + 2))]
  | .rti => [.read (slot (s.sp + 1)), .read (slot (s.sp + 2)), .read (slot (s.sp + 3))]
  | .brk => [.write (slot s.sp) h, .write (slot (s.sp - 1)) l, .write (slot (s.sp - 2)) p, .read vecIrq, .read (vecIrq + 1)]
  | .clc | .sec | .cli | .sei | .cld | .sed | .clv | .nop | .tax | .tay | .txa | .tya | .tsx | .txs | .inx | .iny | .dex | .dey
  | .bcc | .bcs | .beq | .bne | .bmi | .bpl | .bvc | .bvs => []

section
variable {s : State} {o : Operand} {h l p : Byte}

theorem events_readTypes {m : Mnemonic} (hm : m ∈ readTypes) :
    mnemonicEvents s o h l p m = operandEvents s (fun a => [.read a]) o := by
  revert m
  simp [readTypes, mnemonicEvents]

theorem events_storeTypes {m : Mnemonic} (hm : m ∈ storeTypes) :
    mnemonicEvents s o h l p m = operandEvents s (fun a => [.write a h]) o := by
  revert m
  simp [storeTypes, mnemonicEvents]

theorem events_rmwTypes {m : Mnemonic} (hm : m ∈ rmwTypes) :
    mnemonicEvents s o h l p m = operandEvents s (fun a => [.read a, .write a h]) o := by
  revert m
  simp [rmwTypes, mnemonicEvents]

theorem events_registerTypes {m : Mnemonic} (hm : m ∈ registerTypes) : mnemonicEvents s o h l p m = [] := by
  revert m
  simp [registerTypes, mnemonicEvents]

/-- An immediate operand has no transaction beside those of the fetch (R101). -/
theorem events_of_imm {i : Instr} {v : Byte} (hi : i.operand = .imm v) : mnemonicEvents s i.operand h l p i.mnemonic = [] := by
  rw [events_readTypes (Instr.mem_readTypes_of_imm hi), hi]
  rfl

/-- A shift of A has no transaction (R140). -/
theorem events_of_acc {i : Instr} (hi : i.operand = .acc) : mnemonicEvents s i.operand h l p i.mnemonic = [] := by
  rw [events_rmwTypes (Instr.mem_rmwTypes_of_acc hi), hi]
  rfl

/-- The pointer of an operand is only read. -/
theorem write_not_mem_pointerReads (m : MemOperand) (a : Word) (v : Byte) : BusEvent.write a v ∉ pointerReads s m := by
  cases m <;> simp [pointerReads]

/-- A write among an operand's transactions is one at its effective address. -/
theorem write_mem_operandEvents {access : Word → List BusEvent} {a : Word} {v : Byte} :
    BusEvent.write a v ∈ operandEvents s access o ↔ ∃ m, o = .mem m ∧ BusEvent.write a v ∈ access (s.ea m) := by
  cases o <;> simp [operandEvents, write_not_mem_pointerReads]

end

/-! What a list of transactions leaves. -/

/-- Between the states the transactions `es` were issued, in this order, and nothing else touched the bus: only a RAM cell that a write
among them names can have changed, and on a bus of devices the history says all of them. -/
structure Issues (es : List BusEvent) (s t : State) : Prop where
  bus : t.bus = s.bus
  wf : Memory.wf s.mem = true → Memory.wf t.mem = true
  cells : Memory.wf s.mem = true → ∀ k, (∀ a v, .write a v ∈ es → s.route a ≠ .ram k) → t.mem.read k = s.mem.read k
  history : (∀ addr, s.route addr = .device addr) → t.Adds s es

theorem Issues.trans {es fs : List BusEvent} {s t u : State} (h : Issues es s t) (k : Issues fs t u) :
    Issues (es ++ fs) s u where
  bus := k.bus.trans h.bus
  wf hw := k.wf (h.wf hw)
  cells hw c hc := by
    rw [k.cells (h.wf hw) c fun a v hm => by rw [State.route_congr h.bus]; exact hc a v (List.mem_append_right _ hm),
      h.cells hw c fun a v hm => hc a v (List.mem_append_left _ hm)]
  history hd := by
    have ht : u.io = t.io ++ fs := k.history fun addr => by rw [State.route_congr h.bus, hd]
    have hs : t.io = s.io ++ es := h.history hd
    rw [State.Adds, ht, hs, List.append_assoc]

/-- An update of registers and flags issues nothing. -/
theorem issues_nil {s t : State} (hb : t.bus = s.bus) (hm : t.mem = s.mem) (hi : t.io = s.io) : Issues [] s t where
  bus := hb
  wf hw := by rwa [hm]
  cells _ _ _ := by rw [hm]
  history _ := by rw [State.Adds, hi, List.append_nil]

/-- An update of registers and flags after transactions adds none. -/
theorem Issues.then_nil {es : List BusEvent} {s t u : State} (h : Issues es s t) (k : Issues [] t u) : Issues es s u :=
  List.append_nil es ▸ h.trans k

/-- Moving PC past the instruction issues nothing. -/
theorem Issues.of_advance {es : List BusEvent} {s t : State} {n : Nat} (h : Issues es (s.advance n) t) : Issues es s t :=
  (issues_nil (s := s) (t := s.advance n) rfl rfl rfl).trans h

section
variable (s : State)

theorem issues_withSp (v : Byte) : Issues [] s (s.withSp v) := issues_nil rfl rfl rfl

theorem issues_withPc (v : Word) : Issues [] s (s.withPc v) := issues_nil rfl rfl rfl

theorem issues_withP (v : Flags) : Issues [] s (s.withP v) := issues_nil rfl rfl rfl

theorem issues_loadA (v : Byte) : Issues [] s (loadA v s) := issues_nil rfl rfl rfl

theorem issues_loadX (v : Byte) : Issues [] s (loadX v s) := issues_nil rfl rfl rfl

theorem issues_loadY (v : Byte) : Issues [] s (loadY v s) := issues_nil rfl rfl rfl

theorem issues_afterRead (addr : Word) : Issues [.read addr] s (s.afterRead addr) where
  bus := s.afterRead_bus addr
  wf hw := by rwa [s.afterRead_mem]
  cells _ _ _ := by rw [s.afterRead_mem]
  history hd := by rw [State.Adds, State.afterRead_device (hd addr), State.withIo_io]

theorem issues_poke (addr : Word) (v : Byte) : Issues [.write addr v] s (s.poke addr v) where
  bus := s.poke_bus addr v
  wf hw := State.poke_wf hw addr v
  cells hw _ hk := State.poke_mem_read hw v (hk addr v (List.mem_singleton.2 rfl))
  history hd := by rw [State.Adds, State.poke_device v (hd addr), State.withIo_io]

theorem issues_afterReadWord (a b : Word) : Issues [.read a, .read b] s (s.afterReadWord a b) :=
  (issues_afterRead s a).trans (issues_afterRead _ b)

theorem issues_atOperand (m : MemOperand) : Issues (pointerReads s m) s (s.atOperand m) := by
  refine Issues.of_advance (n := m.mode.length) ?_
  cases m with
  | ind _ | indx _ | indy _ => exact issues_afterReadWord _ _ _
  | zp _ | zpx _ | zpy _ | abs _ | absx _ | absy _ | rel _ => exact issues_nil rfl rfl rfl

theorem issues_pushed (v : Byte) : Issues [.write (slot s.sp) v] s (s.pushed v) := by
  rw [State.pushed_eq_slot]
  exact (issues_poke s _ v).then_nil (issues_withSp _ _)

theorem issues_pulled : Issues [.read (slot (s.sp + 1))] s s.pulled := by
  rw [State.pulled_eq_slot]
  exact (issues_afterRead s _).then_nil (issues_withSp _ _)

theorem issues_pushed_pushed (h l : Byte) :
    Issues [.write (slot s.sp) h, .write (slot (s.sp - 1)) l] s ((s.pushed h).pushed l) := by
  rw [State.pushed_pushed]
  exact ((issues_poke s _ h).trans (issues_poke _ _ l)).then_nil (issues_withSp _ _)

theorem issues_pulled_pulled : Issues [.read (slot (s.sp + 1)), .read (slot (s.sp + 2))] s s.pulled.pulled := by
  rw [State.pulled_pulled]
  exact (issues_afterReadWord s _ _).then_nil (issues_withSp _ _)

theorem issues_returned :
    Issues [.read (slot (s.sp + 1)), .read (slot (s.sp + 2)), .read (slot (s.sp + 3))] s s.returned := by
  rw [State.returned_eq]
  exact ((issues_afterRead s _).trans (issues_afterReadWord _ _ _)).then_nil <|
    ((issues_withSp _ _).then_nil (issues_withP _ _)).then_nil (issues_withPc _ _)

/-- A trap writes PC and P to the stack and reads its vector (R222). -/
theorem issues_trapped (brk : Bool) (vec : Word) :
    Issues [.write (slot s.sp) (hi8 s.pc), .write (slot (s.sp - 1)) (lo8 s.pc), .write (slot (s.sp - 2)) (s.p.pbyte brk),
      .read vec, .read (vec + 1)] s (s.trapped brk vec) := by
  have hsp : ((s.pushed (hi8 s.pc)).pushed (lo8 s.pc)).sp = s.sp - 2 := by
    rw [State.pushed_pushed, State.withSp_sp]
  have hp := issues_pushed ((s.pushed (hi8 s.pc)).pushed (lo8 s.pc)) (s.p.pbyte brk)
  rw [hsp] at hp
  exact ((((issues_pushed_pushed s _ _).trans hp).then_nil (issues_withP _ _)).trans
    (issues_afterReadWord _ vec (vec + 1))).then_nil (issues_withPc _ _)

end

/-! The instruction shapes. -/

section
variable {s t : State} {m : MemOperand}

theorem readImm_issues {use : Byte → State → State} {b : Byte} (h : readImm use b s = .next t)
    (hu : ∀ v u, Issues [] u (use v u)) : Issues [] s t := by
  rw [readImm_eq] at h
  cases h
  exact (hu b (s.advance 2)).of_advance

theorem readMem_issues {use : Byte → State → State} (h : readMem use m s = .next t) (hu : ∀ v u, Issues [] u (use v u)) :
    Issues (pointerReads s m ++ [.read (s.ea m)]) s t := by
  rw [readMem_next h]
  exact ((issues_atOperand s m).trans (issues_afterRead _ _)).then_nil (hu _ _)

theorem storeMem_issues {value : State → Byte} (h : storeMem value m s = .next t) :
    ∃ v, Issues (pointerReads s m ++ [.write (s.ea m) v]) s t := by
  rw [storeMem_next h]
  exact ⟨_, (issues_atOperand s m).trans (issues_poke _ _ _)⟩

theorem shiftMem_issues {f : Byte → Bool → Shifted} (h : shiftMem f m s = .next t) :
    ∃ v, Issues (pointerReads s m ++ [.read (s.ea m), .write (s.ea m) v]) s t := by
  rw [shiftMem_next h]
  exact ⟨_, (issues_atOperand s m).trans
    (((issues_afterRead _ _).then_nil (issues_withP _ _)).trans (issues_poke _ _ _))⟩

theorem bumpMem_issues {f : Byte → Byte} (h : bumpMem f m s = .next t) :
    ∃ v, Issues (pointerReads s m ++ [.read (s.ea m), .write (s.ea m) v]) s t := by
  rw [bumpMem_next h]
  exact ⟨_, (issues_atOperand s m).trans
    (((issues_afterRead _ _).trans (issues_poke _ _ _)).then_nil (issues_withP _ _))⟩

theorem implied_issues {change : State → State} (hc : ∀ u, Issues [] u (change u)) (h : implied change s = .next t) :
    Issues [] s t := by
  rw [implied_eq] at h
  cases h
  exact (hc (s.advance 1)).of_advance

theorem shiftAcc_issues {f : Byte → Bool → Shifted} (h : shiftAcc f s = .next t) : Issues [] s t := by
  rw [shiftAcc_eq] at h
  cases h
  exact issues_nil rfl rfl rfl

theorem branchIf_issues {cond : Bool} {d : Byte} (h : branchIf cond d s = .next t) : Issues [] s t := by
  rw [branchIf_eq] at h
  cases cond <;> cases h <;> exact issues_nil rfl rfl rfl

theorem jumpTo_issues (h : jumpTo m s = .next t) : Issues (pointerReads s m ++ []) s t := by
  rw [jumpTo_next h]
  exact (issues_atOperand s m).trans (issues_withPc _ _)

theorem jsr_issues {w : Word} (h : execJsr w s = .next t) :
    ∃ h l, Issues [.write (slot s.sp) h, .write (slot (s.sp - 1)) l] s t := by
  rw [execJsr_next h]
  exact ⟨_, _, ((issues_pushed_pushed (s.advance 3) _ _).then_nil (issues_withPc _ _)).of_advance⟩

theorem rts_issues (h : execRts s = .next t) : Issues [.read (slot (s.sp + 1)), .read (slot (s.sp + 2))] s t := by
  rw [execRts_next h]
  exact ((issues_pulled_pulled (s.advance 1)).then_nil (issues_withPc _ _)).of_advance

theorem rti_issues (h : execRti s = .next t) :
    Issues [.read (slot (s.sp + 1)), .read (slot (s.sp + 2)), .read (slot (s.sp + 3))] s t := by
  rw [execRti_next h]
  exact (issues_returned (s.advance 1)).of_advance

/-- BRK reads no padding byte (D14). -/
theorem brk_issues (he : execBrk s = .next t) : ∃ h l p, Issues [.write (slot s.sp) h, .write (slot (s.sp - 1)) l,
    .write (slot (s.sp - 2)) p, .read vecIrq, .read (vecIrq + 1)] s t := by
  rw [execBrk_next he]
  exact ⟨_, _, _, (issues_trapped ((s.advance 1).advance s.params.brkPad.val) true vecIrq).of_advance.of_advance⟩

theorem pha_issues (h : execPha s = .next t) : ∃ v, Issues [.write (slot s.sp) v] s t := by
  rw [execPha_next h]
  exact ⟨_, (issues_pushed (s.advance 1) _).of_advance⟩

theorem php_issues (h : execPhp s = .next t) : ∃ v, Issues [.write (slot s.sp) v] s t := by
  rw [execPhp_next h]
  exact ⟨_, (issues_pushed (s.advance 1) _).of_advance⟩

theorem pla_issues (h : execPla s = .next t) : Issues [.read (slot (s.sp + 1))] s t := by
  rw [execPla_next h]
  exact ((issues_pulled (s.advance 1)).then_nil (issues_loadA _ _)).of_advance

theorem plp_issues (h : execPlp s = .next t) : Issues [.read (slot (s.sp + 1))] s t := by
  rw [execPlp_next h]
  exact ((issues_pulled (s.advance 1)).then_nil (issues_withP _ _)).of_advance

end

/-- An instruction issues the transactions of the table. Each `( :)` lets the shape's lemma take its operand from `he` before its
transactions meet those of the table. -/
theorem exec_issues {i : Instr} {s t : State} (he : exec i s = .next t) :
    ∃ h l p, Issues (mnemonicEvents s i.operand h l p i.mnemonic) s t := by
  cases i with
  | adcImm _ | sbcImm _ | andImm _ | oraImm _ | eorImm _ | ldaImm _ | ldxImm _ | ldyImm _ | cmpImm _ | cpxImm _ | cpyImm _ =>
    exact ⟨0, 0, 0, (readImm_issues he fun _ _ => issues_nil rfl rfl rfl :)⟩
  | adcIndx _ | adcZp _ | adcAbs _ | adcIndy _ | adcZpx _ | adcAbsy _ | adcAbsx _
  | sbcIndx _ | sbcZp _ | sbcAbs _ | sbcIndy _ | sbcZpx _ | sbcAbsy _ | sbcAbsx _
  | andIndx _ | andZp _ | andAbs _ | andIndy _ | andZpx _ | andAbsy _ | andAbsx _
  | oraIndx _ | oraZp _ | oraAbs _ | oraIndy _ | oraZpx _ | oraAbsy _ | oraAbsx _
  | eorIndx _ | eorZp _ | eorAbs _ | eorIndy _ | eorZpx _ | eorAbsy _ | eorAbsx _
  | ldaIndx _ | ldaZp _ | ldaAbs _ | ldaIndy _ | ldaZpx _ | ldaAbsy _ | ldaAbsx _
  | ldxZp _ | ldxAbs _ | ldxZpy _ | ldxAbsy _ | ldyZp _ | ldyAbs _ | ldyZpx _ | ldyAbsx _
  | cmpIndx _ | cmpZp _ | cmpAbs _ | cmpIndy _ | cmpZpx _ | cmpAbsy _ | cmpAbsx _
  | cpxZp _ | cpxAbs _ | cpyZp _ | cpyAbs _ | bitZp _ | bitAbs _ =>
    exact ⟨0, 0, 0, (readMem_issues he fun _ _ => issues_nil rfl rfl rfl :)⟩
  | staIndx _ | staZp _ | staAbs _ | staIndy _ | staZpx _ | staAbsy _ | staAbsx _
  | stxZp _ | stxAbs _ | stxZpy _ | styZp _ | styAbs _ | styZpx _ =>
    obtain ⟨v, hv⟩ := (storeMem_issues he :)
    exact ⟨v, 0, 0, hv⟩
  | aslZp _ | aslAbs _ | aslZpx _ | aslAbsx _ | lsrZp _ | lsrAbs _ | lsrZpx _ | lsrAbsx _
  | rolZp _ | rolAbs _ | rolZpx _ | rolAbsx _ | rorZp _ | rorAbs _ | rorZpx _ | rorAbsx _ =>
    obtain ⟨v, hv⟩ := (shiftMem_issues he :)
    exact ⟨v, 0, 0, hv⟩
  | incZp _ | incAbs _ | incZpx _ | incAbsx _ | decZp _ | decAbs _ | decZpx _ | decAbsx _ =>
    obtain ⟨v, hv⟩ := (bumpMem_issues he :)
    exact ⟨v, 0, 0, hv⟩
  | aslAcc | lsrAcc | rolAcc | rorAcc => exact ⟨0, 0, 0, (shiftAcc_issues he :)⟩
  | bcc _ | bcs _ | beq _ | bmi _ | bne _ | bpl _ | bvc _ | bvs _ => exact ⟨0, 0, 0, (branchIf_issues he :)⟩
  | clc | sec | cli | sei | cld | sed | clv => exact ⟨0, 0, 0, (implied_issues (fun u => issues_withP u _) he :)⟩
  | nop => exact ⟨0, 0, 0, (implied_issues (fun u => issues_nil (t := u) rfl rfl rfl) he :)⟩
  | tax | tsx | inx | dex => exact ⟨0, 0, 0, (implied_issues (fun u => issues_loadX u _) he :)⟩
  | tay | iny | dey => exact ⟨0, 0, 0, (implied_issues (fun u => issues_loadY u _) he :)⟩
  | txa | tya => exact ⟨0, 0, 0, (implied_issues (fun u => issues_loadA u _) he :)⟩
  | txs => exact ⟨0, 0, 0, (implied_issues (fun u => issues_withSp u _) he :)⟩
  | jmpAbs w => exact ⟨0, 0, 0, jumpTo_issues (m := .abs w) he⟩
  | jmpInd w => exact ⟨0, 0, 0, jumpTo_issues (m := .ind w) he⟩
  | jsr _ =>
    obtain ⟨h, l, hi⟩ := jsr_issues he
    exact ⟨h, l, 0, hi⟩
  | rts => exact ⟨0, 0, 0, rts_issues he⟩
  | rti => exact ⟨0, 0, 0, rti_issues he⟩
  | brk => exact brk_issues he
  | pha =>
    obtain ⟨v, hv⟩ := pha_issues he
    exact ⟨v, 0, 0, hv⟩
  | php =>
    obtain ⟨v, hv⟩ := php_issues he
    exact ⟨v, 0, 0, hv⟩
  | pla => exact ⟨0, 0, 0, pla_issues he⟩
  | plp => exact ⟨0, 0, 0, plp_issues he⟩

/-- The address of a memory operand is the one the table speaks of. -/
theorem HasAddress.eq_ea {s u : State} {i : Instr} {ea : Word} (h : HasAddress s i ea u) :
    ∃ m, i.operand = .mem m ∧ ea = s.ea m := by
  obtain ⟨-, m, r, hm, hr, rfl⟩ := h
  have hl : i.length = m.mode.length := by
    rw [Instr.length, Instr.mode, hm]
    rfl
  rw [hl] at hr
  exact ⟨m, hm, by rw [(resolve_ok hr).1]; rfl⟩

/-! The frame of memory. -/

/-- The byte of a cell reads as before when no write of the table names the cell as RAM. -/
theorem exec_keeps_cell {i : Instr} {s t : State} {b : Word} {k : Nat} (hw : Memory.wf s.mem = true) (he : exec i s = .next t)
    (hk : s.route b = .ram k ∨ s.route b = .rom k)
    (hno : ∀ h l p a v, .write a v ∈ mnemonicEvents s i.operand h l p i.mnemonic → s.route a ≠ .ram k) :
    t.peek b = s.peek b := by
  obtain ⟨h, l, p, hi⟩ := exec_issues he
  exact State.peek_cell hi.bus hk (hi.cells hw k (hno h l p))

section
variable {s : State} {i : Instr} {h l p v : Byte} {a : Word}

/-- A store or a read-modify-write instruction writes at its effective address alone (R126). -/
theorem write_address_of_store (hm : i.mnemonic ∈ storeTypes ∨ i.mnemonic ∈ rmwTypes)
    (hv : .write a v ∈ mnemonicEvents s i.operand h l p i.mnemonic) : ∃ m, i.operand = .mem m ∧ a = s.ea m := by
  rcases hm with hm | hm
  · rw [events_storeTypes hm, write_mem_operandEvents] at hv
    obtain ⟨m, ho, hv⟩ := hv
    exact ⟨m, ho, (by simpa using hv : a = s.ea m ∧ v = h).1⟩
  · rw [events_rmwTypes hm, write_mem_operandEvents] at hv
    obtain ⟨m, ho, hv⟩ := hv
    exact ⟨m, ho, (by simpa using hv : a = s.ea m ∧ v = h).1⟩

/-- An instruction that neither stores nor pushes writes nothing. -/
theorem not_write_of_no_store
    (hm : i.mnemonic ∈ readTypes ∨ i.mnemonic ∈ registerTypes ∨ i.mnemonic ∈ [.jmp, .rts, .rti, .pla, .plp] ∨
      i.operand = .acc) :
    .write a v ∉ mnemonicEvents s i.operand h l p i.mnemonic := by
  rcases hm with hm | hm | hm | hm
  · rw [events_readTypes hm, write_mem_operandEvents]
    simp
  · simp [events_registerTypes hm]
  · simp only [List.mem_cons, List.not_mem_nil, or_false] at hm
    rcases hm with hm | hm | hm | hm | hm <;> simp [hm, mnemonicEvents, write_mem_operandEvents]
  · simp [events_of_acc hm]

end

/-- Settles O55: the writes of each class of instructions, from the table. -/
theorem memoryFrame : Obligations.MemoryFrame := by
  intro i s t hw he b k hk
  refine ⟨fun hm ea u ha hne => exec_keeps_cell hw he hk fun h l p a v hv => ?_,
    fun hm h0 => exec_keeps_cell hw he hk fun h l p a v hv => ?_,
    fun hm h0 h1 => exec_keeps_cell hw he hk fun h l p a v hv => ?_,
    fun hm h0 h1 h2 => exec_keeps_cell hw he hk fun h l p a v hv => ?_,
    fun hm => exec_keeps_cell hw he hk fun h l p a v hv => absurd hv (not_write_of_no_store hm)⟩
  · obtain ⟨m, ho, rfl⟩ := ha.eq_ea
    obtain ⟨m', ho', rfl⟩ := write_address_of_store hm hv
    cases ho.symm.trans ho'
    exact hne
  · have ha : a = slot s.sp ∧ v = h := by
      rcases hm with hm | hm <;> simpa [hm, mnemonicEvents] using hv
    rw [ha.1]
    exact h0
  · rw [hm] at hv
    simp only [mnemonicEvents, List.mem_cons, BusEvent.write.injEq, List.not_mem_nil, or_false] at hv
    obtain ⟨rfl, -⟩ | ⟨rfl, -⟩ := hv
    exacts [h0, h1]
  · rw [hm] at hv
    simp only [mnemonicEvents, List.mem_cons, BusEvent.write.injEq, reduceCtorEq, List.not_mem_nil, or_false] at hv
    obtain ⟨rfl, -⟩ | ⟨rfl, -⟩ | ⟨rfl, -⟩ := hv
    exacts [h0, h1, h2]

/-! The transactions on a bus of devices. -/

/-- A fetch reads the bytes at ascending addresses (R58, R60). -/
theorem fetchBytes_issues {n : Nat} {addr : Word} {s t : State} {bs : List Byte} (h : fetchBytes n addr s = .ok bs t) :
    Issues ((List.range n).map fun k => .read (addr + BitVec.ofNat 16 k)) s t := by
  induction n generalizing addr s bs with
  | zero =>
    cases h
    exact issues_nil rfl rfl rfl
  | succ n ih =>
    simp only [fetchBytes, Access.bind_eq_ok, busRead_eq_ok] at h
    obtain ⟨b, u, ⟨-, rfl, rfl⟩, cs, u', h1, h2⟩ := h
    cases h2
    have hnext : ∀ k, addr + 1 + BitVec.ofNat 16 k = addr + BitVec.ofNat 16 (k + 1) := fun k => by
      rw [BitVec.add_assoc, BitVec.add_comm 1, BitVec.ofNat_add]
      rfl
    have hr := ih h1
    simp only [hnext] at hr
    simpa [List.range_succ_eq_map, Function.comp_def] using (issues_afterRead s addr).trans hr

/-- Settles O56: the table, read for each class of instructions; a service is a trap. -/
theorem transactions : Obligations.Transactions := by
  intro s hd
  refine ⟨fun n addr bs t h => (fetchBytes_issues h).history hd, fun t h => ?_, fun t h => ?_, fun i t he => ?_⟩
  · rw [serviceNmi_ok (finish_eq_next.1 h)]
    exact ⟨_, _, _, (issues_trapped s false vecNmi).history hd⟩
  · rw [serviceIrq_ok (finish_eq_next.1 h)]
    exact ⟨_, _, _, (issues_trapped s false vecIrq).history hd⟩
  obtain ⟨h, l, p, hi⟩ := exec_issues he
  have ht := hi.history hd
  refine ⟨fun m ea u ho ha => ?_, fun hm => ⟨h, ?_⟩, fun hm => ?_, fun hm => ⟨h, l, ?_⟩, fun hm => ?_, fun hm => ?_,
    fun hm => ⟨h, l, p, ?_⟩, fun hm => ?_, fun v hv => ?_⟩
  · obtain ⟨m', ho', rfl⟩ := ha.eq_ea
    cases ho.symm.trans ho'
    rw [ho] at ht
    refine ⟨fun hm => ?_, fun hm => ⟨h, ?_⟩, fun hm => ⟨h, ?_⟩, fun hm => ?_⟩
    · rwa [events_readTypes hm] at ht
    · rwa [events_storeTypes hm] at ht
    · rwa [events_rmwTypes hm] at ht
    · rwa [hm, mnemonicEvents, operandEvents, List.append_nil] at ht
  · rcases hm with hm | hm <;> rwa [hm] at ht
  · rcases hm with hm | hm <;> rwa [hm] at ht
  · rwa [hm] at ht
  · rwa [hm] at ht
  · rwa [hm] at ht
  · rwa [hm] at ht
  · rcases hm with hm | hm
    · rwa [events_registerTypes hm] at ht
    · rwa [events_of_acc hm] at ht
  · rwa [events_of_imm hv] at ht

/-! Completion. -/

/-- On a total bus an instruction ends in a next state: each shape's transactions are all answered (R52, R242). -/
theorem exec_total {s : State} (h : s.BusTotal) (i : Instr) : ∃ t, exec i s = .next t := by
  cases i with
  | adcImm _ | sbcImm _ | andImm _ | oraImm _ | eorImm _ | ldaImm _ | ldxImm _ | ldyImm _ | cmpImm _ | cpxImm _ | cpyImm _ =>
    exact ⟨_, readImm_eq _ _ _⟩
  | adcIndx _ | adcZp _ | adcAbs _ | adcIndy _ | adcZpx _ | adcAbsy _ | adcAbsx _
  | sbcIndx _ | sbcZp _ | sbcAbs _ | sbcIndy _ | sbcZpx _ | sbcAbsy _ | sbcAbsx _
  | andIndx _ | andZp _ | andAbs _ | andIndy _ | andZpx _ | andAbsy _ | andAbsx _
  | oraIndx _ | oraZp _ | oraAbs _ | oraIndy _ | oraZpx _ | oraAbsy _ | oraAbsx _
  | eorIndx _ | eorZp _ | eorAbs _ | eorIndy _ | eorZpx _ | eorAbsy _ | eorAbsx _
  | ldaIndx _ | ldaZp _ | ldaAbs _ | ldaIndy _ | ldaZpx _ | ldaAbsy _ | ldaAbsx _
  | ldxZp _ | ldxAbs _ | ldxZpy _ | ldxAbsy _ | ldyZp _ | ldyAbs _ | ldyZpx _ | ldyAbsx _
  | cmpIndx _ | cmpZp _ | cmpAbs _ | cmpIndy _ | cmpZpx _ | cmpAbsy _ | cmpAbsx _
  | cpxZp _ | cpxAbs _ | cpyZp _ | cpyAbs _ | bitZp _ | bitAbs _ => exact ⟨_, readMem_total h _ _⟩
  | staIndx _ | staZp _ | staAbs _ | staIndy _ | staZpx _ | staAbsy _ | staAbsx _
  | stxZp _ | stxAbs _ | stxZpy _ | styZp _ | styAbs _ | styZpx _ => exact ⟨_, storeMem_total h _ _⟩
  | aslZp _ | aslAbs _ | aslZpx _ | aslAbsx _ | lsrZp _ | lsrAbs _ | lsrZpx _ | lsrAbsx _
  | rolZp _ | rolAbs _ | rolZpx _ | rolAbsx _ | rorZp _ | rorAbs _ | rorZpx _ | rorAbsx _ => exact ⟨_, shiftMem_total h _ _⟩
  | incZp _ | incAbs _ | incZpx _ | incAbsx _ | decZp _ | decAbs _ | decZpx _ | decAbsx _ => exact ⟨_, bumpMem_total h _ _⟩
  | aslAcc | lsrAcc | rolAcc | rorAcc => exact ⟨_, shiftAcc_eq _ _⟩
  | bcc _ | bcs _ | beq _ | bmi _ | bne _ | bpl _ | bvc _ | bvs _ => exact ⟨_, branchIf_eq _ _ _⟩
  | clc | sec | cli | sei | cld | sed | clv | nop | tax | tay | txa | tya | tsx | txs | inx | iny | dex | dey =>
    exact ⟨_, rfl⟩
  | jmpAbs w => exact ⟨_, jumpTo_total h (.abs w)⟩
  | jmpInd w => exact ⟨_, jumpTo_total h (.ind w)⟩
  | jsr w => exact ⟨_, execJsr_total h w⟩
  | rts => exact ⟨_, execRts_total h⟩
  | rti => exact ⟨_, execRti_total h⟩
  | brk => exact ⟨_, execBrk_total h⟩
  | pha => exact ⟨_, execPha_total h⟩
  | php => exact ⟨_, execPhp_total h⟩
  | pla => exact ⟨_, execPla_total h⟩
  | plp => exact ⟨_, execPlp_total h⟩

/-- Settles O52: by `exec_total`, and the relations every instruction keeps. -/
theorem everyInstructionCompletes : Obligations.EveryInstructionCompletes := by
  intro i s hs
  obtain ⟨t, he⟩ := exec_total hs i
  have hp := samePending_instrRelation.exec he
  have hk := keptBy_instrRelation.exec he
  exact ⟨t, he, hp.irq, hp.nmi, hk.run, hk.bus, hk.params⟩

end Machine

end Sys2Proof
end

section
/-! PROOF. The encoding (R80 to R92). `Layout.Makes` says which operand bytes a format turns into which instruction. One fact per row of
the opcode table (`opcodeTable_owns`) and one per instruction (`Instr.exists_row`) give both directions of decoding; and the assembly
lines that exist are those the rows own, one instruction each. -/

namespace Sys2Proof

open Machine

/-! The table by its opcode bytes. -/

set_option maxRecDepth 4000 in
/-- The opcode bytes of the table and the 105 illegal bytes are together the 256 bytes, each once (R87, R88). The lists are
256 long, and `decide` recurses along them, hence the depth. -/
theorem sorted_opcodes_append_illegalBytes :
    ((opcodeTable.map fun d => d.opcode) ++ illegalBytes).insertionSort (· ≤ ·) = (List.finRange 256).map BitVec.ofFin := by
  decide

theorem opcodes_append_illegalBytes_perm :
    ((opcodeTable.map fun d => d.opcode) ++ illegalBytes).Perm ((List.finRange 256).map BitVec.ofFin) :=
  sorted_opcodes_append_illegalBytes ▸ (List.perm_insertionSort (· ≤ ·) _).symm

theorem opcodes_append_illegalBytes_nodup : ((opcodeTable.map fun d => d.opcode) ++ illegalBytes).Nodup := by
  rw [opcodes_append_illegalBytes_perm.nodup_iff]
  exact (List.nodup_finRange 256).map fun _ _ h => BitVec.ofFin.inj h

theorem mem_opcodes_append_illegalBytes (op : Byte) : op ∈ (opcodeTable.map fun d => d.opcode) ++ illegalBytes := by
  rw [opcodes_append_illegalBytes_perm.mem_iff]
  exact List.mem_map.2 ⟨op.toFin, List.mem_finRange _, rfl⟩

/-- No opcode byte has two rows (R84). -/
theorem opcodeTable_nodup : (opcodeTable.map fun d => d.opcode).Nodup := opcodes_append_illegalBytes_nodup.of_append_left

/-- Dispatch finds no row exactly at the bytes that are no row's opcode. -/
theorem dispatch_isNone (op : Byte) : (dispatch op).isNone = true ↔ op ∉ opcodeTable.map fun d => d.opcode := by
  simp [dispatch]

/-- The bytes without a row are the illegal ones (R88). -/
theorem dispatch_isNone_iff_mem_illegalBytes (op : Byte) : (dispatch op).isNone = true ↔ op ∈ illegalBytes := by
  rw [dispatch_isNone]
  constructor
  · exact fun h => (List.mem_append.1 (mem_opcodes_append_illegalBytes op)).resolve_left h
  · exact fun hi ho => List.disjoint_of_nodup_append opcodes_append_illegalBytes_nodup ho hi

/-- Dispatch finds each row of the table by its opcode byte. -/
theorem dispatch_opcode {d : Descriptor} (hd : d ∈ opcodeTable) : dispatch d.opcode = some d := by
  cases h : dispatch d.opcode with
  | none =>
    have hn := (dispatch_isNone d.opcode).1 (by rw [h]; rfl)
    exact absurd (List.mem_map_of_mem hd) hn
  | some e =>
    obtain ⟨he, heq⟩ := dispatch_eq_some h
    rw [List.inj_on_of_nodup_map opcodeTable_nodup he hd heq]

/-- The table's descriptors are those of its sixteen lists, one for each high digit of the opcode byte (R87). -/
theorem forall_mem_opcodeTable {P : Descriptor → Prop} : (∀ d ∈ opcodeTable, P d) ↔
    (∀ d ∈ opcodeRow0, P d) ∧ (∀ d ∈ opcodeRow1, P d) ∧ (∀ d ∈ opcodeRow2, P d) ∧ (∀ d ∈ opcodeRow3, P d) ∧
    (∀ d ∈ opcodeRow4, P d) ∧ (∀ d ∈ opcodeRow5, P d) ∧ (∀ d ∈ opcodeRow6, P d) ∧ (∀ d ∈ opcodeRow7, P d) ∧
    (∀ d ∈ opcodeRow8, P d) ∧ (∀ d ∈ opcodeRow9, P d) ∧ (∀ d ∈ opcodeRowA, P d) ∧ (∀ d ∈ opcodeRowB, P d) ∧
    (∀ d ∈ opcodeRowC, P d) ∧ (∀ d ∈ opcodeRowD, P d) ∧ (∀ d ∈ opcodeRowE, P d) ∧ (∀ d ∈ opcodeRowF, P d) := by
  simp only [opcodeTable, List.forall_mem_append, and_assoc]

/-- Settles O5: the sorted opcode bytes for the first clauses, the sixteen lists for the descriptors' fields. -/
theorem opcodeTable_holds : Obligations.OpcodeTable :=
  ⟨rfl, opcodeTable_nodup, rfl, dispatch_isNone_iff_mem_illegalBytes, forall_mem_opcodeTable.2 (by decide),
    forall_mem_opcodeTable.2 (by decide), forall_mem_opcodeTable.2 (by decide)⟩

/-! Formats and operand bytes. -/

/-- A format makes this instruction of these operand bytes (R82, R83). -/
inductive Layout.Makes : Layout → List Byte → Instr → Prop where
  | f1 (i : Instr) : Makes (.f1 i) [] i
  | f2 (make : Byte → Instr) (d8 : Byte) : Makes (.f2 make) [d8] (make d8)
  | f3 (make : Word → Instr) (w : Word) : Makes (.f3 make) [lo8 w, hi8 w] (make w)

theorem Layout.Makes.ofBytes (make : Word → Instr) (lo hi : Byte) : Makes (.f3 make) [lo, hi] (make (word hi lo)) := by
  simpa using Makes.f3 make (word hi lo)

/-- Every format makes an instruction of some operand bytes. -/
theorem Layout.exists_makes : ∀ l : Layout, ∃ ops i, l.Makes ops i
  | .f1 i => ⟨_, _, .f1 i⟩
  | .f2 make => ⟨_, _, .f2 make 0⟩
  | .f3 make => ⟨_, _, .f3 make 0⟩

/-- A format makes an instruction of any operand bytes of its number. -/
theorem Layout.Makes.of_length {l : Layout} {ops ops' : List Byte} {i : Instr} (h : l.Makes ops i)
    (hlen : ops'.length = ops.length) : ∃ j, l.Makes ops' j := by
  cases h with
  | f1 i =>
    obtain rfl := List.length_eq_zero_iff.1 hlen
    exact ⟨_, .f1 i⟩
  | f2 make d8 =>
    obtain ⟨b, rfl⟩ := List.length_eq_one_iff.1 hlen
    exact ⟨_, .f2 make b⟩
  | f3 make w =>
    obtain ⟨lo, hi, rfl⟩ := List.length_eq_two.1 hlen
    exact ⟨_, .ofBytes make lo hi⟩

/-- What `decode` accepts: a byte with a row, operand bytes of which the row's format makes the instruction, and any rest. -/
theorem decode_eq_ok {bs rest : List Byte} {i : Instr} :
    decode bs = .ok (i, rest) ↔ ∃ op d ops, dispatch op = some d ∧ d.layout.Makes ops i ∧ bs = op :: (ops ++ rest) := by
  constructor
  · intro h
    unfold decode at h
    split at h
    · cases h
    · rename_i op bs
      split at h
      · cases h
      · rename_i d hd
        refine ⟨op, d, ?_⟩
        split at h <;> cases h <;> rename_i hl <;> rw [hl]
        · exact ⟨[], hd, .f1 _, rfl⟩
        · exact ⟨[_], hd, .f2 _ _, rfl⟩
        · exact ⟨[_, _], hd, .ofBytes _ _ _, rfl⟩
  · rintro ⟨op, d, ops, hd, hm, rfl⟩
    rw [decode, hd]
    cases hl : d.layout <;> rw [hl] at hm <;> cases hm <;> simp [hl]

/-! The rows and the instructions. -/

/-- A row owns the instructions its format makes: each has this row, and its operand bytes are those it was made of (R82, R86). -/
theorem opcodeTable_owns {d : Descriptor} (hd : d ∈ opcodeTable) {ops : List Byte} {i : Instr} (h : d.layout.Makes ops i) :
    i.descriptor = some d ∧ i.operand.bytes = ops := by
  fin_cases hd <;> cases h <;> exact ⟨rfl, rfl⟩

/-- Every instruction has a row, the format of which makes it of its operand bytes (R82, R86). -/
theorem Instr.exists_row (i : Instr) : ∃ d, i.descriptor = some d ∧ d.layout.Makes i.operand.bytes i := by
  cases i with
  | aslAcc | lsrAcc | rolAcc | rorAcc | brk | clc | cld | cli | clv | dex | dey | inx | iny | nop | pha | php | pla | plp | rti | rts
  | sec | sed | sei | tax | tay | tsx | txa | txs | tya => exact ⟨_, rfl, .f1 _⟩
  | adcImm d | andImm d | cmpImm d | cpxImm d | cpyImm d | eorImm d | ldaImm d | ldxImm d | ldyImm d | oraImm d | sbcImm d
  | adcIndx d | adcZp d | adcIndy d | adcZpx d | andIndx d | andZp d | andIndy d | andZpx d | aslZp d | aslZpx d
  | bcc d | bcs d | beq d | bmi d | bne d | bpl d | bvc d | bvs d | bitZp d | cmpIndx d | cmpZp d | cmpIndy d | cmpZpx d
  | cpxZp d | cpyZp d | decZp d | decZpx d | eorIndx d | eorZp d | eorIndy d | eorZpx d | incZp d | incZpx d
  | ldaIndx d | ldaZp d | ldaIndy d | ldaZpx d | ldxZp d | ldxZpy d | ldyZp d | ldyZpx d | lsrZp d | lsrZpx d
  | oraIndx d | oraZp d | oraIndy d | oraZpx d | rolZp d | rolZpx d | rorZp d | rorZpx d
  | sbcIndx d | sbcZp d | sbcIndy d | sbcZpx d | staIndx d | staZp d | staIndy d | staZpx d | stxZp d | stxZpy d | styZp d | styZpx d =>
    exact ⟨_, rfl, .f2 _ d⟩
  | adcAbs w | adcAbsy w | adcAbsx w | andAbs w | andAbsy w | andAbsx w | aslAbs w | aslAbsx w | bitAbs w
  | cmpAbs w | cmpAbsy w | cmpAbsx w | cpxAbs w | cpyAbs w | decAbs w | decAbsx w | eorAbs w | eorAbsy w | eorAbsx w
  | incAbs w | incAbsx w | jmpAbs w | jmpInd w | jsr w | ldaAbs w | ldaAbsy w | ldaAbsx w | ldxAbs w | ldxAbsy w | ldyAbs w | ldyAbsx w
  | lsrAbs w | lsrAbsx w | oraAbs w | oraAbsy w | oraAbsx w | rolAbs w | rolAbsx w | rorAbs w | rorAbsx w
  | sbcAbs w | sbcAbsy w | sbcAbsx w | staAbs w | staAbsy w | staAbsx w | stxAbs w | styAbs w => exact ⟨_, rfl, .f3 _ w⟩

/-- The row of an instruction is in the table and has its mnemonic and mode. -/
theorem Instr.descriptor_eq_some {i : Instr} {d : Descriptor} (h : i.descriptor = some d) :
    d ∈ opcodeTable ∧ d.mnemonic = i.mnemonic ∧ d.mode = i.mode :=
  ⟨List.mem_of_find?_eq_some h, by simpa using List.find?_some h⟩

/-- An instruction is encoded as the opcode byte of its row and its operand bytes. -/
theorem encode_of_descriptor {i : Instr} {d : Descriptor} (h : i.descriptor = some d) : encode i = d.opcode :: i.operand.bytes := by
  rw [encode, Instr.opcode, h]

/-- Settles O1: dispatch finds the instruction's row, and the row's format makes the instruction of its operand bytes. -/
theorem decodeEncode : Obligations.DecodeEncode := by
  intro i rest
  obtain ⟨d, hd, hm⟩ := i.exists_row
  have hfind := dispatch_opcode (Instr.descriptor_eq_some hd).1
  exact decode_eq_ok.2 ⟨d.opcode, d, _, hfind, hm, by rw [encode_of_descriptor hd, List.cons_append]⟩

/-- Settles O2: the row that decoding found owns the instruction it made. -/
theorem encodeDecode : Obligations.EncodeDecode := by
  intro bs i rest h
  obtain ⟨op, d, ops, hd, hm, rfl⟩ := decode_eq_ok.1 h
  obtain ⟨hmem, rfl⟩ := dispatch_eq_some hd
  obtain ⟨hrow, rfl⟩ := opcodeTable_owns hmem hm
  rw [encode_of_descriptor hrow, List.cons_append]

/-- Settles O3: by running `decode` on each word. -/
theorem wordsDecode : Obligations.WordsDecode :=
  ⟨rfl, rfl, rfl, rfl, rfl, rfl, rfl, rfl, rfl, rfl, rfl, rfl, rfl, rfl, rfl, rfl, rfl, rfl, rfl, rfl⟩

/-! Assembly lines. -/

theorem Operand.bytes_length (o : Operand) : o.bytes.length = o.mode.operandBytes := by
  cases o with
  | mem m => cases m <;> rfl
  | _ => rfl

/-- The operand a mode reads from its operand bytes (R83); bytes of another number give the implied operand. -/
def Mode.readOperand : Mode → List Byte → Operand
  | .acc, _ => .acc
  | .imm, [v] => .imm v
  | .zp, [d] => .mem (.zp d)
  | .zpx, [d] => .mem (.zpx d)
  | .zpy, [d] => .mem (.zpy d)
  | .abs, [lo, hi] => .mem (.abs (word hi lo))
  | .absx, [lo, hi] => .mem (.absx (word hi lo))
  | .absy, [lo, hi] => .mem (.absy (word hi lo))
  | .ind, [lo, hi] => .mem (.ind (word hi lo))
  | .indx, [d] => .mem (.indx d)
  | .indy, [d] => .mem (.indy d)
  | .rel, [d] => .mem (.rel d)
  | _, _ => .imp

theorem Operand.readOperand_mode_bytes (o : Operand) : o.mode.readOperand o.bytes = o := by
  cases o with
  | mem m => cases m <;> simp [Operand.mode, MemOperand.mode, Operand.bytes, MemOperand.bytes, Mode.readOperand]
  | _ => rfl

/-- An operand is determined by its mode and its bytes (R83). -/
theorem Operand.eq_of_mode_of_bytes {o o' : Operand} (hm : o.mode = o'.mode) (hb : o.bytes = o'.bytes) : o = o' := by
  rw [← o.readOperand_mode_bytes, hm, hb, o'.readOperand_mode_bytes]

/-- Every filled cell of the opcode map has a row in the table (R86). -/
theorem exists_row_of_mem_modes {m : Mnemonic} {mode : Mode} (h : mode ∈ m.modes) :
    ∃ d ∈ opcodeTable, d.mnemonic = m ∧ d.mode = mode := by
  have hfind : ∀ mode ∈ m.modes, (opcodeTable.find? fun d => d.mnemonic == m && d.mode == mode).isSome = true := by
    cases m <;> decide
  simpa using hfind mode h

/-- The format of a row makes an instruction of any operand bytes of the number its mode has (R81, R82). -/
theorem opcodeTable_makes {d : Descriptor} (hd : d ∈ opcodeTable) {ops : List Byte} (h : ops.length = d.mode.operandBytes) :
    ∃ i, d.layout.Makes ops i := by
  obtain ⟨ops', j, hj⟩ := d.layout.exists_makes
  obtain ⟨hrow, rfl⟩ := opcodeTable_owns hd hj
  obtain ⟨-, -, hmode⟩ := Instr.descriptor_eq_some hrow
  exact hj.of_length (by rw [h, hmode, Operand.bytes_length, Instr.mode])

/-- A well-formed line is that of the instruction its row makes of its operand bytes (R86). -/
theorem AsmLine.exists_instr {l : AsmLine} (h : l.wellFormed = true) : ∃ i : Instr, i.line = l := by
  obtain ⟨m, o⟩ := l
  obtain ⟨d, hd, hmnem, hmode⟩ := exists_row_of_mem_modes (List.contains_iff_mem.1 h)
  obtain ⟨i, hi⟩ := opcodeTable_makes hd (ops := o.bytes) (by rw [hmode, Operand.bytes_length])
  obtain ⟨hrow, hbytes⟩ := opcodeTable_owns hd hi
  obtain ⟨-, hmnem', hmode'⟩ := Instr.descriptor_eq_some hrow
  have ho : i.operand = o := Operand.eq_of_mode_of_bytes (hmode'.symm.trans hmode) hbytes
  exact ⟨i, by rw [Instr.line, ho, ← hmnem', hmnem]⟩

/-- An instruction's encoding depends on its assembly line alone. -/
theorem encode_eq_of_line_eq {i j : Instr} (h : i.line = j.line) : encode i = encode j := by
  obtain ⟨hm, ho⟩ := AsmLine.mk.inj h
  simp only [encode, Instr.opcode, Instr.descriptor, Instr.mode, hm, ho]

/-- Settles O4: the table has a row for each filled cell, and an instruction is read back from an encoding its line determines. -/
theorem legalForms : Obligations.LegalForms := by
  refine ⟨fun l => ⟨AsmLine.exists_instr, ?_⟩, fun i j h => ?_⟩
  · rintro ⟨i, rfl⟩
    exact i.wellFormed_eq_true
  · have hi := decodeEncode i []
    rw [encode_eq_of_line_eq h, decodeEncode j []] at hi
    cases hi
    rfl

end Sys2Proof
end

section
/-! PROOF. The addressing modes (R102 to R110, R113): the addresses the resolver forms, by their numbers, and its page-cross bit. -/

namespace Sys2Proof.Machine

/-- An indexed zero-page address stays in page 0 (R103, R104). -/
theorem zeroPage_add_toNat (d i : Byte) : (zeroPage (d + i)).toNat = (d.toNat + i.toNat) % 256 := by
  rw [zeroPage_toNat, BitVec.toNat_add]

/-- A zero-page address has page 0 and the byte as its number (R102). -/
theorem zeroPage_eq_ofNat (d : Byte) : zeroPage d = BitVec.ofNat 16 d.toNat := by
  rw [← zeroPage_toNat, BitVec.ofNat_toNat, BitVec.setWidth_eq]

/-- The page-cross bit compares page numbers (R113). -/
theorem crosses_eq_decide_page (base ea : Word) : crosses base ea = decide (page ea ≠ page base) := by
  rw [crosses, Bool.eq_iff_iff, bne_iff_ne, decide_eq_true_iff, Ne, hi8_eq_iff_page]

theorem indexed_ea_toNat (base : Word) (i : Byte) : (indexed base i).ea.toNat = (base.toNat + i.toNat) % 65536 := by
  rw [indexed, BitVec.toNat_add, zext16_toNat]

/-- Indexing crosses a page when the sum is not in the base's page (R106, R107, R110, R113). -/
theorem indexed_eq (base : Word) (i : Byte) :
    indexed base i = { ea := (indexed base i).ea, cross := decide (page (indexed base i).ea ≠ page base) } := by
  rw [← crosses_eq_decide_page]
  rfl

/-- The second pointer byte of a JMP (indirect): within the pointer's page when `JMP_IND_WRAP`, else the next address (R59, R108). -/
theorem indirectHigh_toNat (wrap : Bool) (w : Word) :
    (indirectHigh wrap w).toNat = if wrap = true then 256 * (w.toNat / 256) + (w.toNat + 1) % 256 else (w.toNat + 1) % 65536 := by
  cases wrap with
  | true =>
    have hlow : (lo8 w + 1).toNat = (w.toNat + 1) % 256 := by
      rw [BitVec.toNat_add, lo8_toNat]
      exact Nat.mod_add_mod ..
    simp only [indirectHigh, if_true, word_toNat, hi8_toNat, hlow]
  | false => exact BitVec.toNat_add w 1

/-- Settles O16: a zero-page address is its byte, and the sum of two bytes is modulo 256. -/
theorem zeroPageModes : Obligations.ZeroPageModes := by
  intro s d
  simp only [resolve, zeroPage_eq_ofNat, BitVec.toNat_add, true_and]

/-- Settles O17: by the number and the page of an indexed address. -/
theorem absoluteModes : Obligations.AbsoluteModes := by
  refine fun s w => ⟨rfl, ⟨_, indexed_ea_toNat w s.x, ?_⟩, ⟨_, indexed_ea_toNat w s.y, ?_⟩⟩
  · rw [resolve, ← indexed_eq]
  · rw [resolve, ← indexed_eq]

/-- Settles O18: `resolve_total` names the two pointer bytes, and each address is pinned by its number. -/
theorem pointerModes : Obligations.PointerModes := by
  refine fun s hb => ⟨fun w => ?ind, fun d => ?indx, fun d => ?indy⟩
  case ind => exact ⟨_, indirectHigh_toNat s.params.jmpIndWrap w, resolve_total hb _⟩
  case indx =>
    have hsecond : (zeroPage (d + s.x + 1)).toNat = (d.toNat + s.x.toNat + 1) % 256 := by
      rw [zeroPage_add_toNat, BitVec.toNat_add]
      exact Nat.mod_add_mod ..
    exact ⟨_, _, zeroPage_add_toNat d s.x, hsecond, resolve_total hb _⟩
  case indy =>
    refine ⟨_, _, _, zeroPage_toNat d, zeroPage_add_toNat d 1, indexed_ea_toNat _ s.y, ?_⟩
    rw [resolve_total hb, ← indexed_eq]
    rfl

end Sys2Proof.Machine
end

section
/-! PROOF. Loads and stores (R120 to R126), and what every read-type instruction shares with them: the encoding of a row of the table, the
operand byte or the address an instruction has on a total bus, and what a read-type instruction or a store does with it. -/

namespace Sys2Proof

theorem Instr.length_of_operand {i : Instr} {o : Operand} (h : i.operand = o) : i.length = o.mode.length := by
  rw [Instr.length, Instr.mode, h]

namespace Machine

/-! The forms: what a row of the opcode table says of an instruction. -/

/-- A row without a branch penalty gives the bytes and the cycles of its instruction (R82, R275). -/
theorem encodes_of_descriptor {i : Instr} {op : Byte} {m : Mnemonic} {mode : Mode} {cycles : Nat} {penalty : Bool} {l : Layout}
    (h : i.descriptor = some ⟨op, m, mode, cycles, penalty, false, l⟩) : Encodes i (op :: i.operand.bytes) cycles penalty := by
  refine ⟨encode_of_descriptor h, fun s => ?_⟩
  have hc : instrCycles i s = cycles + bitNat (penalty && operandCrosses i.operand s) := by
    rw [instrCycles, h]
    rfl
  rw [hc]
  cases penalty && operandCrosses i.operand s <;> rfl

section
variable {m : Mnemonic} {mode : Mode} {op : Byte} {cycles : Nat} {penalty : Bool}

/-- The two-byte form of a row; that the operand is `o d` and its byte `d` holds by definition for each row. -/
theorem byteForm_of_descriptor {make : Byte → Instr} {o : Byte → Operand}
    (hd : ∀ d, (make d).descriptor = some ⟨op, m, mode, cycles, penalty, false, .f2 make⟩)
    (ho : ∀ d, (make d).operand = o d := by exact fun _ => rfl) (hb : ∀ d, (o d).bytes = [d] := by exact fun _ => rfl) :
    ByteForm make m o op cycles penalty := fun d => by
  have he := encodes_of_descriptor (hd d)
  rw [ho, hb] at he
  obtain ⟨-, hm, -⟩ := Instr.descriptor_eq_some (hd d)
  exact ⟨hm.symm, ho d, he⟩

/-- The three-byte form of a row. -/
theorem wordForm_of_descriptor {make : Word → Instr} {o : Word → Operand}
    (hd : ∀ w, (make w).descriptor = some ⟨op, m, mode, cycles, penalty, false, .f3 make⟩)
    (ho : ∀ w, (make w).operand = o w := by exact fun _ => rfl)
    (hb : ∀ w, (o w).bytes = [lo8 w, hi8 w] := by exact fun _ => rfl) : WordForm make m o op cycles penalty := fun w => by
  have he := encodes_of_descriptor (hd w)
  rw [ho, hb] at he
  obtain ⟨-, hm, -⟩ := Instr.descriptor_eq_some (hd w)
  exact ⟨hm.symm, ho w, he⟩

end

/-! The operand of an instruction on a total bus. -/

section
variable {s t : State} {i : Instr} {n : Nat}

theorem State.PassedTo.a (h : s.PassedTo t n) : t.a = s.a := (congrArg State.a h).trans rfl

theorem State.PassedTo.x (h : s.PassedTo t n) : t.x = s.x := (congrArg State.x h).trans rfl

theorem State.PassedTo.y (h : s.PassedTo t n) : t.y = s.y := (congrArg State.y h).trans rfl

theorem State.PassedTo.p (h : s.PassedTo t n) : t.p = s.p := (congrArg State.p h).trans rfl

theorem State.PassedTo.afterRead (h : s.PassedTo t n) (addr : Word) : s.PassedTo (t.afterRead addr) n :=
  (State.afterRead_eq t addr).trans (congrArg (State.withIo · (t.afterRead addr).io) h)

theorem ReadsByte.passedTo {v : Byte} (h : ReadsByte s i v t) : s.PassedTo t i.length := h.1

theorem HasAddress.passedTo {ea : Word} (h : HasAddress s i ea t) : s.PassedTo t i.length := h.1

theorem readsByte_imm {v : Byte} (ho : i.operand = .imm v) : ReadsByte s i v (s.advance 2) := by
  have hl : i.length = 2 := Instr.length_of_operand ho
  rw [ReadsByte, ho, hl]
  exact ⟨rfl, rfl, rfl⟩

/-- A memory operand has the address `State.ea` names, once PC is past the instruction and the pointer is read (R58, R100). -/
theorem hasAddress_mem (hb : s.BusTotal) {m : MemOperand} (ho : i.operand = .mem m) :
    HasAddress s i (s.ea m) (s.atOperand m) := by
  have hl : i.length = m.mode.length := Instr.length_of_operand ho
  rw [HasAddress, hl]
  exact ⟨s.atOperand_eq m, m, _, ho, resolve_total (advance_total hb _) m, rfl⟩

/-- An operand byte in memory is what one read at the address delivers (R58). -/
theorem HasAddress.readsByte (hb : t.BusTotal) {m : MemOperand} (ho : i.operand = .mem m) {ea : Word}
    (h : HasAddress s i ea t) : ReadsByte s i (t.peek ea) (t.afterRead ea) := by
  obtain ⟨hp, m', r, ho', hr, rfl⟩ := h
  cases ho.symm.trans ho'
  rw [ReadsByte, ho]
  exact ⟨hp.afterRead r.ea, r, t, hr, busRead_total hb r.ea⟩

end

/-! Read-type instructions. -/

/-- What a read-type instruction does with its operand byte, by mnemonic (R120 to R122, R131 to R138, R150 to R153). -/
def operandUse : Mnemonic → Option (Byte → State → State)
  | .lda => some loadA
  | .ldx => some loadX
  | .ldy => some loadY
  | .adc => some adcA
  | .sbc => some sbcA
  | .and => some andA
  | .ora => some oraA
  | .eor => some eorA
  | .bit => some bitA
  | .cmp => some (compareWith State.a)
  | .cpx => some (compareWith State.x)
  | .cpy => some (compareWith State.y)
  | _ => none

/-- The instruction is carried out by one of the two read-type shapes, on its own operand. -/
inductive Reads (use : Byte → State → State) (i : Instr) : Prop where
  | imm (v : Byte) (ho : i.operand = .imm v) (he : ∀ s, exec i s = readImm use v s)
  | mem (m : MemOperand) (ho : i.operand = .mem m) (he : ∀ s, exec i s = readMem use m s)

theorem reads_of_operandUse {i : Instr} {use : Byte → State → State} (h : operandUse i.mnemonic = some use) : Reads use i := by
  cases i with
  | adcImm v | sbcImm v | andImm v | oraImm v | eorImm v | ldaImm v | ldxImm v | ldyImm v | cmpImm v | cpxImm v | cpyImm v =>
    cases h
    exact .imm v rfl fun _ => rfl
  | adcIndx _ | adcZp _ | adcAbs _ | adcIndy _ | adcZpx _ | adcAbsy _ | adcAbsx _
  | sbcIndx _ | sbcZp _ | sbcAbs _ | sbcIndy _ | sbcZpx _ | sbcAbsy _ | sbcAbsx _
  | andIndx _ | andZp _ | andAbs _ | andIndy _ | andZpx _ | andAbsy _ | andAbsx _
  | oraIndx _ | oraZp _ | oraAbs _ | oraIndy _ | oraZpx _ | oraAbsy _ | oraAbsx _
  | eorIndx _ | eorZp _ | eorAbs _ | eorIndy _ | eorZpx _ | eorAbsy _ | eorAbsx _
  | ldaIndx _ | ldaZp _ | ldaAbs _ | ldaIndy _ | ldaZpx _ | ldaAbsy _ | ldaAbsx _
  | ldxZp _ | ldxAbs _ | ldxZpy _ | ldxAbsy _ | ldyZp _ | ldyAbs _ | ldyZpx _ | ldyAbsx _
  | cmpIndx _ | cmpZp _ | cmpAbs _ | cmpIndy _ | cmpZpx _ | cmpAbsy _ | cmpAbsx _
  | cpxZp _ | cpxAbs _ | cpyZp _ | cpyAbs _ | bitZp _ | bitAbs _ =>
    cases h
    exact .mem _ rfl fun _ => rfl
  | _ => cases h

/-- On a total bus a read-type instruction reads its operand byte and does with it what the table says, nothing else. -/
theorem exec_of_operandUse {i : Instr} {s : State} {use : Byte → State → State} (h : operandUse i.mnemonic = some use)
    (hb : s.BusTotal) : ∃ v t, ReadsByte s i v t ∧ exec i s = .next (use v t) := by
  cases reads_of_operandUse h with
  | imm v ho he => exact ⟨v, s.advance 2, readsByte_imm ho, he s⟩
  | mem m ho he =>
    exact ⟨_, _, (hasAddress_mem hb ho).readsByte (hb.atOperand m) ho, (he s).trans (readMem_total hb use m)⟩

/-! Loads. -/

/-- On a total bus a load puts its operand byte in its register, and Z and N in the flags before it (R120 to R122). -/
theorem exec_load {i : Instr} {s : State} {put : State → Byte → State}
    (h : operandUse i.mnemonic = some fun v t => (put t v).withP (t.p.setZN v)) (hb : s.BusTotal) :
    ∃ v t, ReadsByte s i v t ∧ exec i s = .next ((put t v).withP (s.p.setZN v)) := by
  obtain ⟨v, t, hr, he⟩ := exec_of_operandUse h hb
  exact ⟨v, t, hr, by rw [he, hr.passedTo.p]⟩

/-- Settles O19: the rows of LDA, and `exec_load` into A. -/
theorem loadA_holds : Obligations.LoadA :=
  ⟨⟨byteForm_of_descriptor descriptor_ldaImm, byteForm_of_descriptor descriptor_ldaZp,
    byteForm_of_descriptor descriptor_ldaZpx, wordForm_of_descriptor descriptor_ldaAbs, wordForm_of_descriptor descriptor_ldaAbsx,
    wordForm_of_descriptor descriptor_ldaAbsy, byteForm_of_descriptor descriptor_ldaIndx,
    byteForm_of_descriptor descriptor_ldaIndy⟩,
    fun _ _ hm hb => exec_load (put := State.withA) (congrArg operandUse hm) hb⟩

/-- Settles O20: the rows of LDX, and `exec_load` into X. -/
theorem loadX_holds : Obligations.LoadX :=
  ⟨byteForm_of_descriptor descriptor_ldxImm, byteForm_of_descriptor descriptor_ldxZp,
    byteForm_of_descriptor descriptor_ldxZpy, wordForm_of_descriptor descriptor_ldxAbs, wordForm_of_descriptor descriptor_ldxAbsy,
    fun _ _ hm hb => exec_load (put := State.withX) (congrArg operandUse hm) hb⟩

/-- Settles O21: the rows of LDY, and `exec_load` into Y. -/
theorem loadY_holds : Obligations.LoadY :=
  ⟨byteForm_of_descriptor descriptor_ldyImm, byteForm_of_descriptor descriptor_ldyZp,
    byteForm_of_descriptor descriptor_ldyZpx, wordForm_of_descriptor descriptor_ldyAbs, wordForm_of_descriptor descriptor_ldyAbsx,
    fun _ _ hm hb => exec_load (put := State.withY) (congrArg operandUse hm) hb⟩

/-! Stores. -/

/-- The register a store writes to memory, by mnemonic (R123 to R125). -/
def storedRegister : Mnemonic → Option (State → Byte)
  | .sta => some State.a
  | .stx => some State.x
  | .sty => some State.y
  | _ => none

theorem exec_eq_storeMem {i : Instr} {value : State → Byte} (h : storedRegister i.mnemonic = some value) :
    ∃ m, i.operand = .mem m ∧ ∀ s, exec i s = storeMem value m s := by
  cases i with
  | staIndx _ | staZp _ | staAbs _ | staIndy _ | staZpx _ | staAbsy _ | staAbsx _
  | stxZp _ | stxAbs _ | stxZpy _ | styZp _ | styAbs _ | styZpx _ =>
    cases h
    exact ⟨_, rfl, fun _ => rfl⟩
  | _ => cases h

/-- Fetching an instruction and resolving its operand change no register a store writes (R100). -/
theorem storedRegister_of_passedTo {m : Mnemonic} {value : State → Byte} {s t : State} {n : Nat}
    (h : storedRegister m = some value) (hp : s.PassedTo t n) : value t = value s := by
  cases m with
  | sta =>
    cases h
    exact hp.a
  | stx =>
    cases h
    exact hp.x
  | sty =>
    cases h
    exact hp.y
  | _ => cases h

/-- On a total bus a store writes its register at its address, nothing else. -/
theorem exec_of_storedRegister {i : Instr} {s : State} {value : State → Byte} (h : storedRegister i.mnemonic = some value)
    (hb : s.BusTotal) : ∃ ea t, HasAddress s i ea t ∧ exec i s = .next (t.poke ea (value s)) := by
  obtain ⟨m, ho, he⟩ := exec_eq_storeMem h
  have ha := hasAddress_mem hb ho
  exact ⟨_, _, ha, by rw [he, storeMem_total hb, storedRegister_of_passedTo h ha.passedTo]⟩

/-- Settles O22: the rows of STA, STX and STY, and `exec_of_storedRegister`. -/
theorem stores : Obligations.Stores :=
  ⟨⟨byteForm_of_descriptor descriptor_staZp, byteForm_of_descriptor descriptor_staZpx,
      wordForm_of_descriptor descriptor_staAbs, wordForm_of_descriptor descriptor_staAbsx,
      wordForm_of_descriptor descriptor_staAbsy, byteForm_of_descriptor descriptor_staIndx,
      byteForm_of_descriptor descriptor_staIndy⟩,
    ⟨byteForm_of_descriptor descriptor_stxZp, byteForm_of_descriptor descriptor_stxZpy, wordForm_of_descriptor descriptor_stxAbs⟩,
    ⟨byteForm_of_descriptor descriptor_styZp, byteForm_of_descriptor descriptor_styZpx, wordForm_of_descriptor descriptor_styAbs⟩,
    fun _ _ hb => ⟨fun hm => exec_of_storedRegister (congrArg storedRegister hm) hb,
      fun hm => exec_of_storedRegister (congrArg storedRegister hm) hb,
      fun hm => exec_of_storedRegister (congrArg storedRegister hm) hb⟩⟩

end Machine

end Sys2Proof
end

section
/-! PROOF. Arithmetic and logic (R130 to R138). An arithmetic instruction writes its result to A and four flags; what the result is
depends on the mode. Binary SBC is binary ADC of the complement, so both overflows are one fact (R130). A decimal sum or difference is
taken column by column: each digit is the remainder by 10 of what its column holds, the quotient is carried or borrowed (R132, R134). -/

namespace Sys2Proof.Machine

/-! Bits and digits of a byte. -/

theorem getLsbD_seven (b : Byte) : b.getLsbD 7 = decide (128 ≤ b.toNat) := BitVec.msb_eq_decide b

theorem and_0x80_ne_zero (b : Byte) : (b &&& 0x80 != 0) = b.getLsbD 7 := by
  rw [show (0x80 : Byte) = BitVec.twoPow 8 7 from rfl, BitVec.and_twoPow]
  cases b.getLsbD 7 <;> rfl

theorem nat_and_0x80_ne_zero (n : Nat) : (n &&& 0x80 != 0) = n.testBit 7 := by
  rw [show 0x80 = 2 ^ 7 from rfl, Nat.and_two_pow]
  cases n.testBit 7 <;> rfl

theorem and_0x0F (n : Nat) : n &&& 0x0F = n % 16 := Nat.and_two_pow_sub_one_eq_mod n 4

theorem and_0xF0 (b : Byte) : b.toNat &&& 0xF0 = 16 * (b.toNat / 16) := by
  have hlow : (b.toNat &&& 0xF0) % 2 ^ 4 = b.toNat % 2 ^ 4 &&& 0 := Nat.and_mod_two_pow
  have hhigh : (b.toNat &&& 0xF0) / 2 ^ 4 = b.toNat / 2 ^ 4 &&& 0x0F := Nat.and_div_two_pow
  rw [Nat.and_zero] at hlow
  rw [and_0x0F] at hhigh
  have := b.isLt
  omega

theorem testBit_seven (b : Byte) : b.toNat.testBit 7 = decide (b.toNat / 128 = 1) := by
  rw [Nat.testBit_eq_decide_div_mod_eq]
  have := b.isLt
  congr 1
  apply propext
  omega

/-- The byte of two decimal digits: both are digits, and its number is what they say. -/
theorem bcd_of_digits {b : Byte} {high low : Nat} (hb : b.toNat = 16 * high + low) (hh : high ≤ 9) (hl : low ≤ 9) :
    IsBcd b ∧ bcdValue b = 10 * high + low := by
  rw [IsBcd, bcdValue]
  omega

theorem complement_toNat (m : Byte) : (m ^^^ 0xFF).toNat = 255 - m.toNat := by
  rw [show (0xFF : Byte) = BitVec.allOnes 8 from rfl, BitVec.xor_allOnes, BitVec.toNat_not]

theorem complement_signed (m : Byte) : signed (m ^^^ 0xFF) = -1 - signed m := by
  have := m.isLt
  rw [signed, signed, complement_toNat]
  split <;> split <;> omega

/-! The modes of arithmetic. -/

section
variable {params : Params} {p : Flags} {a m : Byte}

theorem validBcd_iff (b : Byte) : validBcd b = true ↔ IsBcd b := by
  simp [validBcd, IsBcd, and_comm]

theorem decimalMode_eq_false (h : p.d = false ∨ params.decimal = .ignored) : decimalMode params p = false := by
  rcases h with h | h <;> simp [decimalMode, h]

theorem decimalMode_eq_true (hd : p.d = true) (hn : params.decimal = .nmos) : decimalMode params p = true := by
  simp [decimalMode, hd, hn]

theorem adcResult_binary (h : decimalMode params p = false) : adcResult params p a m = adcBinary a m p.c := by
  simp [adcResult, h]

theorem adcResult_decimal (h : decimalMode params p = true) (hv : IsBcd a ∧ IsBcd m) :
    adcResult params p a m = adcDecimal a m p.c := by
  simp [adcResult, h, validBcd_iff, hv]

theorem adcResult_free (h : decimalMode params p = true) (hv : ¬ (IsBcd a ∧ IsBcd m)) :
    adcResult params p a m = Config.adcInvalidBcd a m p.c := by
  simp [adcResult, h, validBcd_iff, hv]

theorem sbcResult_binary (h : decimalMode params p = false) : sbcResult params p a m = sbcBinary a m p.c := by
  simp [sbcResult, h]

theorem sbcResult_decimal (h : decimalMode params p = true) (hv : IsBcd a ∧ IsBcd m) :
    sbcResult params p a m = sbcDecimal a m p.c := by
  simp [sbcResult, h, validBcd_iff, hv]

theorem sbcResult_free (h : decimalMode params p = true) (hv : ¬ (IsBcd a ∧ IsBcd m)) :
    sbcResult params p a m = Config.sbcInvalidBcd a m p.c := by
  simp [sbcResult, h, validBcd_iff, hv]

end

theorem State.PassedTo.params {s t : State} {n : Nat} (h : s.PassedTo t n) : t.params = s.params :=
  (congrArg State.params h).trans rfl

/-- On a total bus ADC and SBC write their result, taken of A, the flags and the parameters before them, and nothing else. -/
theorem exec_arith {i : Instr} {s : State} {result : Params → Flags → Byte → Byte → AluResult}
    (h : operandUse i.mnemonic = some fun m t => setArith (result t.params t.p t.a m) t) (hb : s.BusTotal) :
    ∃ m t, ReadsByte s i m t ∧ exec i s =
      .next ((t.withA (result s.params s.p s.a m).value).withP (s.p.setArith (result s.params s.p s.a m))) := by
  obtain ⟨m, t, hr, he⟩ := exec_of_operandUse h hb
  exact ⟨m, t, hr, by rw [he, setArith, hr.passedTo.a, hr.passedTo.p, hr.passedTo.params]⟩

/-! Binary arithmetic. -/

section
variable (a m : Byte) (c : Bool)

/-- V of an addition is signed overflow (R130). -/
theorem overflow_add : let r : Byte := BitVec.ofNat 8 (a.toNat + m.toNat + c.toNat)
    ((a ^^^ r) &&& (m ^^^ r)).getLsbD 7 =
      decide (signed a + signed m + c.toNat < -128 ∨ signed a + signed m + c.toNat > 127) := by
  intro r
  have hr : r.toNat = (a.toNat + m.toNat + c.toNat) % 256 := BitVec.toNat_ofNat _ _
  have ha := a.isLt
  have hm := m.isLt
  have hc := c.toNat_lt
  rw [BitVec.getLsbD_and, BitVec.getLsbD_xor, BitVec.getLsbD_xor, getLsbD_seven, getLsbD_seven, getLsbD_seven, Bool.eq_iff_iff,
    decide_eq_true_iff]
  simp only [signed, Bool.and_eq_true, bne_iff_ne, ne_eq, decide_eq_decide]
  split <;> split <;> omega

theorem adcBinary_v : let r : Byte := BitVec.ofNat 8 (a.toNat + m.toNat + c.toNat)
    (adcBinary a m c).v = ((a ^^^ r) &&& (m ^^^ r)).getLsbD 7 := and_0x80_ne_zero _

theorem sbcBinary_v : (sbcBinary a m c).v = ((a ^^^ m) &&& (a ^^^ (sbcBinary a m c).value)).getLsbD 7 := and_0x80_ne_zero _

/-- A difference is the sum with the complement, less the carry out of it. -/
theorem difference_eq_sum : (a.toNat : Int) - m.toNat - (1 - c.toNat) =
    ((a.toNat + (m ^^^ 0xFF).toNat + c.toNat : Nat) : Int) - 256 := by
  have := m.isLt
  rw [complement_toNat]
  omega

/-- The byte of a difference is that of the sum with the complement (R133). -/
theorem sbcBinary_value : (sbcBinary a m c).value = BitVec.ofNat 8 (a.toNat + (m ^^^ 0xFF).toNat + c.toNat) := by
  apply BitVec.eq_of_toNat_eq
  rw [sbcBinary, bitNat, difference_eq_sum, BitVec.toNat_ofInt, BitVec.toNat_ofNat]
  omega

theorem sbcBinary_c : (sbcBinary a m c).c = decide (a.toNat + (m ^^^ 0xFF).toNat + c.toNat > 255) := by
  rw [sbcBinary, bitNat, difference_eq_sum, decide_eq_decide]
  omega

/-- A differs in sign from the operand and from `r` exactly where A and the operand's complement both differ in sign from `r`. -/
theorem and_xor_complement (r : Byte) :
    ((a ^^^ m) &&& (a ^^^ r)).getLsbD 7 = ((a ^^^ r) &&& ((m ^^^ 0xFF) ^^^ r)).getLsbD 7 := by
  have h1 : (0xFF : Byte).getLsbD 7 = true := rfl
  simp only [BitVec.getLsbD_and, BitVec.getLsbD_xor, h1]
  cases a.getLsbD 7 <;> cases m.getLsbD 7 <;> cases r.getLsbD 7 <;> rfl

/-- V of a subtraction is signed overflow (R130). -/
theorem overflow_sub : (sbcBinary a m c).v =
    decide (signed a - signed m - (1 - c.toNat) < -128 ∨ signed a - signed m - (1 - c.toNat) > 127) := by
  have hs : signed a - signed m - (1 - c.toNat) = signed a + signed (m ^^^ 0xFF) + c.toNat := by
    rw [complement_signed]
    omega
  rw [sbcBinary_v, and_xor_complement, sbcBinary_value, hs]
  exact overflow_add a (m ^^^ 0xFF) c

end

/-- Settles O23: the rows of ADC, and `overflow_add`. -/
theorem adcBinary_holds : Obligations.AdcBinary := by
  refine ⟨⟨byteForm_of_descriptor descriptor_adcImm, byteForm_of_descriptor descriptor_adcZp,
    byteForm_of_descriptor descriptor_adcZpx, wordForm_of_descriptor descriptor_adcAbs, wordForm_of_descriptor descriptor_adcAbsx,
    wordForm_of_descriptor descriptor_adcAbsy, byteForm_of_descriptor descriptor_adcIndx,
    byteForm_of_descriptor descriptor_adcIndy⟩, fun i s hi hb hd => ?_⟩
  obtain ⟨m, t, hr, he⟩ := exec_arith (result := adcResult) (congrArg operandUse hi) hb
  rw [adcResult_binary (decimalMode_eq_false hd), Flags.setArith, adcBinary_v] at he
  exact ⟨m, t, hr, he, overflow_add s.a m s.p.c⟩

/-- Settles O25: the rows of SBC, and SBC as ADC of the complement. -/
theorem sbcBinary_holds : Obligations.SbcBinary := by
  refine ⟨⟨byteForm_of_descriptor descriptor_sbcImm, byteForm_of_descriptor descriptor_sbcZp,
    byteForm_of_descriptor descriptor_sbcZpx, wordForm_of_descriptor descriptor_sbcAbs, wordForm_of_descriptor descriptor_sbcAbsx,
    wordForm_of_descriptor descriptor_sbcAbsy, byteForm_of_descriptor descriptor_sbcIndx,
    byteForm_of_descriptor descriptor_sbcIndy⟩, fun i s hi hb hd => ?_⟩
  obtain ⟨m, t, hr, he⟩ := exec_arith (result := sbcResult) (congrArg operandUse hi) hb
  rw [sbcResult_binary (decimalMode_eq_false hd), Flags.setArith, sbcBinary_v] at he
  exact ⟨m, t, hr, he, (sbcBinary_v s.a m s.p.c).symm.trans (overflow_sub s.a m s.p.c), sbcBinary_value s.a m s.p.c,
    sbcBinary_c s.a m s.p.c, and_xor_complement s.a m _⟩

/-! Decimal arithmetic. -/

section
variable (a m : Byte) (c : Bool)

/-- The sum before the last correction, by the digits' numbers (`al` and `t` of R132). -/
theorem adcHighSum_eq : adcHighSum a m c =
    let low := a.toNat % 16 + m.toNat % 16 + c.toNat
    let al := if low ≥ 0x0A then (low + 0x06) % 16 + 0x10 else low
    16 * (a.toNat / 16) + 16 * (m.toNat / 16) + al := by
  simp only [adcHighSum, adcLowDigit, and_0x0F, and_0xF0, bitNat]

theorem adcDecimal_n : (adcDecimal a m c).n = decide (adcHighSum a m c / 128 % 2 = 1) := Nat.testBit_eq_decide_div_mod_eq

/-- V of a decimal sum: bit 7 of the sum before its last correction differs from that of both operands (R132). -/
theorem adcDecimal_v : (adcDecimal a m c).v =
    decide (adcHighSum a m c / 128 % 2 ≠ a.toNat / 128 ∧ adcHighSum a m c / 128 % 2 ≠ m.toNat / 128) := by
  have ha := a.isLt
  have hm := m.isLt
  rw [adcDecimal, nat_and_0x80_ne_zero, Nat.testBit_and, Nat.testBit_xor, Nat.testBit_xor, testBit_seven, testBit_seven,
    Nat.testBit_eq_decide_div_mod_eq, Bool.eq_iff_iff]
  simp only [Bool.and_eq_true, bne_iff_ne, ne_eq, decide_eq_decide, decide_eq_true_eq]
  omega

/-- The byte decimal SBC writes, by the digits' numbers (`al` and `t` of R134). -/
theorem sbcDecimalByte_eq : sbcDecimalByte a m c =
    let low : Int := ((a.toNat % 16 : Nat) : Int) - ((m.toNat % 16 : Nat) : Int) + c.toNat - 1
    let al : Int := if low < 0 then (low - 0x06) % 16 - 0x10 else low
    let u : Int := ((16 * (a.toNat / 16) : Nat) : Int) - ((16 * (m.toNat / 16) : Nat) : Int) + al
    BitVec.ofInt 8 (if u < 0 then u - 0x60 else u) := by
  simp only [sbcDecimalByte, sbcLowDigit, and_0x0F, and_0xF0, bitNat]

/-- The correction of a low digit sum leaves its remainder by 10 and carries its quotient into bit 4. -/
theorem carry_low {n : Nat} (h : n ≤ 19) : (if n ≥ 0x0A then (n + 0x06) % 16 + 0x10 else n) = 16 * (n / 10) + n % 10 := by
  split <;> omega

/-- The last correction of a sum leaves the high column's remainder by 10 and carries its quotient out of the byte. -/
theorem carry_high {high low : Nat} (hh : high ≤ 19) (hl : low ≤ 9) :
    (if 16 * high + low ≥ 0xA0 then 16 * high + low + 0x60 else 16 * high + low) =
      256 * (high / 10) + (16 * (high % 10) + low) := by
  split <;> omega

/-- The correction of a low digit difference leaves its remainder by 10 and borrows where it is negative. -/
theorem borrow_low {n : Int} (h : -10 ≤ n ∧ n ≤ 9) :
    (if n < 0 then (n - 0x06) % 16 - 0x10 else n) = 16 * (n / 10) + n % 10 := by
  split <;> omega

/-- The last correction of a difference leaves the high column's remainder by 10 and borrows from outside the byte. -/
theorem borrow_high {high low : Int} (hh : -10 ≤ high ∧ high ≤ 9) (hl : 0 ≤ low ∧ low ≤ 9) :
    (if 16 * high + low < 0 then 16 * high + low - 0x60 else 16 * high + low) =
      256 * (high / 10) + (16 * (high % 10) + low) := by
  split <;> omega

variable {a m}

/-- The sum before the last correction, column by column. -/
theorem adcHighSum_columns (ha : IsBcd a) (hm : IsBcd m) {low : Nat} (hlow : low = a.toNat % 16 + m.toNat % 16 + c.toNat) :
    adcHighSum a m c = 16 * (a.toNat / 16 + m.toNat / 16 + low / 10) + low % 10 := by
  have hc := c.toNat_le
  obtain ⟨-, hal⟩ := ha
  obtain ⟨-, hml⟩ := hm
  have hu := adcHighSum_eq a m c
  dsimp only at hu
  rw [← hlow, carry_low (by omega)] at hu
  omega

/-- The digits of the byte decimal SBC writes, column by column. -/
theorem sbcDecimalByte_toNat (ha : IsBcd a) (hm : IsBcd m) {low high : Int}
    (hlow : low = ((a.toNat % 16 : Nat) : Int) - ((m.toNat % 16 : Nat) : Int) + c.toNat - 1)
    (hhigh : high = a.toNat / 16 - m.toNat / 16 + low / 10) :
    (sbcDecimalByte a m c).toNat = 16 * (high % 10).toNat + (low % 10).toNat := by
  have hc := c.toNat_le
  obtain ⟨hah, hal⟩ := ha
  obtain ⟨hmh, hml⟩ := hm
  have hu : ((16 * (a.toNat / 16) : Nat) : Int) - ((16 * (m.toNat / 16) : Nat) : Int) + (16 * (low / 10) + low % 10) =
      16 * high + low % 10 := by omega
  have hq := sbcDecimalByte_eq a m c
  dsimp only at hq
  rw [← hlow, borrow_low (by omega), hu, borrow_high (by omega) (by omega)] at hq
  rw [hq, BitVec.toNat_ofInt]
  omega

/-- The decimal sum (R132): each column keeps its remainder by 10 and carries its quotient, out of the high column as 100. -/
theorem decimal_sum (ha : IsBcd a) (hm : IsBcd m) :
    let u := adcHighSum a m c
    let w := if u ≥ 0xA0 then u + 0x60 else u
    let r : Byte := BitVec.ofNat 8 w
    IsBcd r ∧ bcdValue r + (if w ≥ 0x100 then 100 else 0) = bcdValue a + bcdValue m + c.toNat := by
  have hc := c.toNat_le
  obtain ⟨low, hlow⟩ : ∃ low, low = a.toNat % 16 + m.toNat % 16 + c.toNat := ⟨_, rfl⟩
  obtain ⟨high, hhigh⟩ : ∃ high, high = a.toNat / 16 + m.toNat / 16 + low / 10 := ⟨_, rfl⟩
  have hu := adcHighSum_columns c ha hm hlow
  rw [← hhigh] at hu
  obtain ⟨hah, hal⟩ := ha
  obtain ⟨hmh, hml⟩ := hm
  dsimp only
  rw [hu, carry_high (by omega) (by omega)]
  have hr : (BitVec.ofNat 8 (256 * (high / 10) + (16 * (high % 10) + low % 10))).toNat = 16 * (high % 10) + low % 10 := by
    rw [BitVec.toNat_ofNat]
    omega
  obtain ⟨hbcd, hvalue⟩ := bcd_of_digits hr (by omega) (by omega)
  refine ⟨hbcd, ?_⟩
  rw [hvalue, bcdValue, bcdValue]
  split <;> omega

/-- The decimal difference (R134): each column keeps its remainder by 10 and borrows where it is negative, out of the high column as
100, exactly where the binary difference is negative. -/
theorem decimal_difference (ha : IsBcd a) (hm : IsBcd m) :
    let q := sbcDecimalByte a m c
    let d : Int := (a.toNat : Int) - m.toNat - (1 - c.toNat)
    IsBcd q ∧ (bcdValue q : Int) - (if 0 ≤ d then 0 else 100) = (bcdValue a : Int) - bcdValue m - (1 - c.toNat) := by
  have hc := c.toNat_le
  obtain ⟨low, hlow⟩ : ∃ low : Int, low = ((a.toNat % 16 : Nat) : Int) - ((m.toNat % 16 : Nat) : Int) + c.toNat - 1 :=
    ⟨_, rfl⟩
  obtain ⟨high, hhigh⟩ : ∃ high : Int, high = a.toNat / 16 - m.toNat / 16 + low / 10 := ⟨_, rfl⟩
  obtain ⟨hbcd, hvalue⟩ := bcd_of_digits (sbcDecimalByte_toNat c ha hm hlow hhigh) (by omega) (by omega)
  obtain ⟨hah, hal⟩ := ha
  obtain ⟨hmh, hml⟩ := hm
  refine ⟨hbcd, ?_⟩
  rw [hvalue, bcdValue, bcdValue]
  split <;> omega

end

/-- Settles O24: the flags of `adcDecimal`, and `decimal_sum`. -/
theorem adcDecimal_holds : Obligations.AdcDecimal := by
  intro i s hi hb hd hn
  obtain ⟨m, t, hr, he⟩ := exec_arith (result := adcResult) (congrArg operandUse hi) hb
  have hmode := decimalMode_eq_true hd hn
  refine ⟨m, t, hr, fun hv => ?_, fun hv => ?_⟩
  · obtain ⟨hva, hvm⟩ := hv
    have hsum := decimal_sum s.p.c hva hvm
    rw [adcHighSum_eq] at hsum
    rw [adcResult_decimal hmode ⟨hva, hvm⟩, Flags.setArith, adcDecimal_n, adcDecimal_v, adcDecimal, adcHighSum_eq] at he
    exact ⟨he, hsum⟩
  · rwa [adcResult_free hmode hv] at he

/-- Settles O26: the flags of `sbcBinary`, and `decimal_difference`. -/
theorem sbcDecimal_holds : Obligations.SbcDecimal := by
  intro i s hi hb hd hn
  obtain ⟨m, t, hr, he⟩ := exec_arith (result := sbcResult) (congrArg operandUse hi) hb
  have hmode := decimalMode_eq_true hd hn
  refine ⟨m, t, hr, fun hv => ?_, fun hv => ?_⟩
  · obtain ⟨hva, hvm⟩ := hv
    have hdiff := decimal_difference s.p.c hva hvm
    rw [sbcDecimalByte_eq] at hdiff
    rw [sbcResult_decimal hmode ⟨hva, hvm⟩, Flags.setArith, sbcDecimal, sbcBinary_v, sbcDecimalByte_eq] at he
    exact ⟨he, hdiff⟩
  · rwa [sbcResult_free hmode hv] at he

/-! Logic. -/

/-- On a total bus AND, ORA and EOR put their result in A, and Z and N of it in the flags (R135 to R137). -/
theorem exec_logic {i : Instr} {s : State} {f : Byte → Byte → Byte}
    (h : operandUse i.mnemonic = some fun m t => loadA (f t.a m) t) (hb : s.BusTotal) :
    ∃ m t, ReadsByte s i m t ∧ exec i s = .next ((t.withA (f s.a m)).withP (s.p.setZN (f s.a m))) := by
  obtain ⟨m, t, hr, he⟩ := exec_of_operandUse h hb
  exact ⟨m, t, hr, by rw [he, loadA, hr.passedTo.a, hr.passedTo.p]⟩

/-- Settles O27: the rows of AND, ORA and EOR, and `exec_logic`. -/
theorem logic : Obligations.Logic := by
  refine ⟨⟨byteForm_of_descriptor descriptor_andImm, byteForm_of_descriptor descriptor_andZp,
      byteForm_of_descriptor descriptor_andZpx, wordForm_of_descriptor descriptor_andAbs,
      wordForm_of_descriptor descriptor_andAbsx, wordForm_of_descriptor descriptor_andAbsy,
      byteForm_of_descriptor descriptor_andIndx, byteForm_of_descriptor descriptor_andIndy⟩,
    ⟨byteForm_of_descriptor descriptor_oraImm, byteForm_of_descriptor descriptor_oraZp,
      byteForm_of_descriptor descriptor_oraZpx, wordForm_of_descriptor descriptor_oraAbs,
      wordForm_of_descriptor descriptor_oraAbsx, wordForm_of_descriptor descriptor_oraAbsy,
      byteForm_of_descriptor descriptor_oraIndx, byteForm_of_descriptor descriptor_oraIndy⟩,
    ⟨byteForm_of_descriptor descriptor_eorImm, byteForm_of_descriptor descriptor_eorZp,
      byteForm_of_descriptor descriptor_eorZpx, wordForm_of_descriptor descriptor_eorAbs,
      wordForm_of_descriptor descriptor_eorAbsx, wordForm_of_descriptor descriptor_eorAbsy,
      byteForm_of_descriptor descriptor_eorIndx, byteForm_of_descriptor descriptor_eorIndy⟩, fun i s f hb hi => ?_⟩
  obtain ⟨hi, rfl⟩ | ⟨hi, rfl⟩ | ⟨hi, rfl⟩ := hi
  all_goals exact exec_logic (congrArg operandUse hi) hb

/-- Settles O28: the rows of BIT, whose flags `Flags.setBit` writes from A before it and the operand byte. -/
theorem bitTest : Obligations.BitTest := by
  refine ⟨byteForm_of_descriptor descriptor_bitZp, wordForm_of_descriptor descriptor_bitAbs, fun i s hi hb => ?_⟩
  obtain ⟨m, t, hr, he⟩ := exec_of_operandUse (congrArg operandUse hi) hb
  have hbit : bitA m t = t.withP (s.p.setBit s.a m) := by rw [bitA, hr.passedTo.a, hr.passedTo.p]
  exact ⟨m, t, hr, he.trans (congrArg _ hbit)⟩

end Sys2Proof.Machine
end

section
/-! PROOF. Shifts and rotates (R140 to R144): what each of the four functions makes of a byte and the old carry, by its number, and the two
shapes in which an instruction applies it, to A or to one memory location. -/

namespace Sys2Proof.Machine

/-- The one-byte form of a row. -/
theorem plainForm_of_descriptor {i : Instr} {op : Byte} {m : Mnemonic} {mode : Mode} {cycles : Nat} {o : Operand} {l : Layout}
    (hd : i.descriptor = some ⟨op, m, mode, cycles, false, false, l⟩) (ho : i.operand = o := by rfl)
    (hb : o.bytes = [] := by rfl) : PlainForm i m o op cycles := by
  have he := encodes_of_descriptor hd
  rw [ho, hb] at he
  obtain ⟨-, hm, -⟩ := Instr.descriptor_eq_some hd
  exact ⟨hm.symm, ho, he⟩

/-! The four functions. -/

/-- The function `f` of R140, by mnemonic (R141 to R144). -/
def shiftFunction : Mnemonic → Option (Byte → Bool → Shifted)
  | .asl => some aslByte
  | .lsr => some lsrByte
  | .rol => some rolByte
  | .ror => some rorByte
  | _ => none

theorem exists_shiftFunction {m : Mnemonic} (h : m ∈ [Mnemonic.asl, .lsr, .rol, .ror]) : ∃ f, shiftFunction m = some f := by
  simp only [List.mem_cons, List.not_mem_nil, or_false] at h
  obtain rfl | rfl | rfl | rfl := h <;> exact ⟨_, rfl⟩

section
variable (v : Byte) (c : Bool)

theorem shiftLeft_one_toNat : (v <<< 1).toNat = 2 * v.toNat % 256 := by
  rw [BitVec.toNat_shiftLeft, Nat.shiftLeft_eq, Nat.mul_comm]

theorem ushiftRight_one_toNat : (v >>> 1).toNat = v.toNat / 2 := by
  rw [BitVec.toNat_ushiftRight, Nat.shiftRight_eq_div_pow]

/-- The old carry enters the bit 0 that the shift has left empty, so joining the two is adding them (R143). -/
theorem rolByte_value_toNat : (rolByte v c).value.toNat = (2 * v.toNat + c.toNat) % 256 := by
  have hc := c.toNat_lt
  have hbit : (BitVec.ofNat 8 c.toNat).toNat = c.toNat := Nat.mod_eq_of_lt (by omega)
  have heven : 2 * v.toNat % 256 = 2 ^ 1 * (v.toNat % 128) := by omega
  rw [rolByte, bitNat, BitVec.toNat_or, shiftLeft_one_toNat, heven, hbit, ← Nat.two_pow_add_eq_or_of_lt hc]
  omega

/-- The old carry enters the bit 7 that the shift has left empty (R144). -/
theorem rorByte_value_toNat : (rorByte v c).value.toNat = v.toNat / 2 + 128 * c.toNat := by
  have hc := c.toNat_lt
  have hv : v.toNat / 2 < 2 ^ 7 := by
    have := v.isLt
    omega
  have hbit : (BitVec.ofNat 8 (128 * c.toNat)).toNat = 2 ^ 7 * c.toNat := Nat.mod_eq_of_lt (by omega)
  rw [rorByte, bitNat, BitVec.toNat_or, ushiftRight_one_toNat, hbit, Nat.or_comm, ← Nat.two_pow_add_eq_or_of_lt hv]
  omega

theorem shiftsTo_of_shiftFunction {m : Mnemonic} {f : Byte → Bool → Shifted} (h : shiftFunction m = some f) :
    ShiftsTo m v c (f v c).value (f v c).carry := by
  cases m with
  | asl =>
    cases h
    exact .inl ⟨rfl, shiftLeft_one_toNat v, rfl⟩
  | lsr =>
    cases h
    exact .inr (.inl ⟨rfl, ushiftRight_one_toNat v, rfl⟩)
  | rol =>
    cases h
    exact .inr (.inr (.inl ⟨rfl, rolByte_value_toNat v c, rfl⟩))
  | ror =>
    cases h
    exact .inr (.inr (.inr ⟨rfl, rorByte_value_toNat v c, rfl⟩))
  | _ => cases h

end

/-! The two shapes. -/

/-- The instruction is carried out by one of the two shapes of R140, on its own operand. -/
inductive ShiftsBy (f : Byte → Bool → Shifted) (i : Instr) : Prop where
  | acc (ho : i.operand = .acc) (he : ∀ s, exec i s = shiftAcc f s)
  | mem (m : MemOperand) (ho : i.operand = .mem m) (he : ∀ s, exec i s = shiftMem f m s)

theorem shiftsBy_of_shiftFunction {i : Instr} {f : Byte → Bool → Shifted} (h : shiftFunction i.mnemonic = some f) :
    ShiftsBy f i := by
  cases i with
  | aslAcc | lsrAcc | rolAcc | rorAcc =>
    cases h
    exact .acc rfl fun _ => rfl
  | aslZp _ | aslZpx _ | aslAbs _ | aslAbsx _ | lsrZp _ | lsrZpx _ | lsrAbs _ | lsrAbsx _
  | rolZp _ | rolZpx _ | rolAbs _ | rolAbsx _ | rorZp _ | rorZpx _ | rorAbs _ | rorAbsx _ =>
    cases h
    exact .mem _ rfl fun _ => rfl
  | _ => cases h

/-- In accumulator mode A is the operand and takes the result, on any bus. -/
theorem exec_shift_acc {i : Instr} {f : Byte → Bool → Shifted} (h : shiftFunction i.mnemonic = some f) (ho : i.operand = .acc)
    (s : State) : exec i s = .next (((s.advance 1).withA (f s.a s.p.c).value).withP (s.p.setShift (f s.a s.p.c))) := by
  cases shiftsBy_of_shiftFunction h with
  | acc _ he => exact (he s).trans (shiftAcc_eq f s)
  | mem m hm _ => cases ho.symm.trans hm

/-- In a memory mode, on a total bus, the byte read at the address is replaced by the result of the shift. -/
theorem exec_shift_mem {i : Instr} {s : State} {f : Byte → Bool → Shifted} (h : shiftFunction i.mnemonic = some f)
    (ho : i.operand ≠ .acc) (hb : s.BusTotal) :
    ∃ ea t v u, HasAddress s i ea t ∧ busRead t ea = .ok v u ∧
      exec i s = .next ((u.poke ea (f v s.p.c).value).withP (s.p.setShift (f v s.p.c))) := by
  cases shiftsBy_of_shiftFunction h with
  | acc hacc _ => exact absurd hacc ho
  | mem m hm he =>
    exact ⟨_, _, _, _, hasAddress_mem hb hm, busRead_total (hb.atOperand m) _,
      by rw [he, shiftMem_total hb, State.poke_withP]⟩

/-- Settles O29: the rows of ASL, LSR, ROL and ROR, and their functions in the two shapes. -/
theorem shifts : Obligations.Shifts := by
  refine ⟨⟨plainForm_of_descriptor descriptor_aslAcc, byteForm_of_descriptor descriptor_aslZp,
      byteForm_of_descriptor descriptor_aslZpx, wordForm_of_descriptor descriptor_aslAbs,
      wordForm_of_descriptor descriptor_aslAbsx⟩,
    ⟨plainForm_of_descriptor descriptor_lsrAcc, byteForm_of_descriptor descriptor_lsrZp,
      byteForm_of_descriptor descriptor_lsrZpx, wordForm_of_descriptor descriptor_lsrAbs,
      wordForm_of_descriptor descriptor_lsrAbsx⟩,
    ⟨plainForm_of_descriptor descriptor_rolAcc, byteForm_of_descriptor descriptor_rolZp,
      byteForm_of_descriptor descriptor_rolZpx, wordForm_of_descriptor descriptor_rolAbs,
      wordForm_of_descriptor descriptor_rolAbsx⟩,
    ⟨plainForm_of_descriptor descriptor_rorAcc, byteForm_of_descriptor descriptor_rorZp,
      byteForm_of_descriptor descriptor_rorZpx, wordForm_of_descriptor descriptor_rorAbs,
      wordForm_of_descriptor descriptor_rorAbsx⟩, fun i s hi ho => ?acc, fun i s hi ho hb => ?mem⟩
  case acc =>
    obtain ⟨f, hf⟩ := exists_shiftFunction hi
    exact ⟨_, _, shiftsTo_of_shiftFunction s.a s.p.c hf, exec_shift_acc hf ho s⟩
  case mem =>
    obtain ⟨f, hf⟩ := exists_shiftFunction hi
    obtain ⟨ea, t, v, u, ha, hr, he⟩ := exec_shift_mem hf ho hb
    exact ⟨ea, t, v, u, _, _, ha, hr, shiftsTo_of_shiftFunction v s.p.c hf, he⟩

end Sys2Proof.Machine
end

section
/-! PROOF. Compares (R150 to R153): the register compared is the one before the instruction, and C, Z and N alone are written. -/

namespace Sys2Proof.Machine

/-- On a total bus a compare sets the flags of its register, which the fetch and the read leave alone, and its operand byte (R150). -/
theorem exec_compare {i : Instr} {s : State} {reg : State → Byte} (h : operandUse i.mnemonic = some (compareWith reg))
    (hreg : ∀ {t : State} {n : Nat}, s.PassedTo t n → reg t = reg s) (hb : s.BusTotal) :
    ∃ m t, ReadsByte s i m t ∧ exec i s = .next (t.withP (s.p.setCompare (reg s) m)) := by
  obtain ⟨m, t, hr, he⟩ := exec_of_operandUse h hb
  exact ⟨m, t, hr, by rw [he, compareWith, hreg hr.passedTo, hr.passedTo.p]⟩

/-- Settles O30: the rows of CMP, CPX and CPY, and `exec_compare` of A, X and Y. -/
theorem compares : Obligations.Compares := by
  refine ⟨⟨byteForm_of_descriptor descriptor_cmpImm, byteForm_of_descriptor descriptor_cmpZp,
      byteForm_of_descriptor descriptor_cmpZpx, wordForm_of_descriptor descriptor_cmpAbs,
      wordForm_of_descriptor descriptor_cmpAbsx, wordForm_of_descriptor descriptor_cmpAbsy,
      byteForm_of_descriptor descriptor_cmpIndx, byteForm_of_descriptor descriptor_cmpIndy⟩,
    ⟨byteForm_of_descriptor descriptor_cpxImm, byteForm_of_descriptor descriptor_cpxZp, wordForm_of_descriptor descriptor_cpxAbs⟩,
    ⟨byteForm_of_descriptor descriptor_cpyImm, byteForm_of_descriptor descriptor_cpyZp, wordForm_of_descriptor descriptor_cpyAbs⟩,
    fun i s reg hb hi => ?_⟩
  obtain ⟨hi, rfl⟩ | ⟨hi, rfl⟩ | ⟨hi, rfl⟩ := hi
  · exact exec_compare (congrArg operandUse hi) State.PassedTo.a hb
  · exact exec_compare (congrArg operandUse hi) State.PassedTo.x hb
  · exact exec_compare (congrArg operandUse hi) State.PassedTo.y hb

end Sys2Proof.Machine
end

section
/-! PROOF. Branches (R155 to R163): what `branchIf` makes of its condition, the page crossing the resolver reports, and the two joined
with the row of each mnemonic. -/

namespace Sys2Proof.Machine

/-- PC alone is written: with the target of R112 when the condition holds, else with the address of the next instruction (R155). -/
theorem branchIf_eq_target (cond : Bool) (d : Byte) (s : State) :
    branchIf cond d s = .next { s with pc := if cond then s.target d else s.pc + 2 } := by
  rw [branchIf_eq, target_eq]
  cases cond <;> rfl

/-- The base of a relative operand is the address of the next instruction (R112, R113). -/
theorem operandCrosses_rel (d : Byte) (s : State) :
    operandCrosses (.mem (.rel d)) s = decide (page (s.target d) ≠ page (s.pc + 2)) := by
  have hbase : operandCrosses (.mem (.rel d)) s = crosses (s.pc + 2) (s.pc + 2 + sext16 d) := rfl
  rw [hbase, target_eq, crosses_eq_decide_page]

/-- A row with the branch penalty costs 2 cycles, one more when taken and one more again when the target is in another page (R275). -/
theorem instrCycles_of_branch_descriptor {i : Instr} {op : Byte} {m : Mnemonic} {l : Layout} {d : Byte}
    (hd : i.descriptor = some ⟨op, m, .rel, 2, false, true, l⟩) (ho : i.operand = .mem (.rel d)) (s : State) :
    instrCycles i s =
      if branchCondition i.mnemonic s.p then (if page (s.target d) = page (s.pc + 2) then 3 else 4) else 2 := by
  rw [instrCycles, hd, ho, operandCrosses_rel]
  cases branchCondition i.mnemonic s.p with
  | false => rfl
  | true =>
    by_cases hpage : page (s.target d) = page (s.pc + 2)
    · rw [decide_eq_false (not_not_intro hpage), if_pos rfl, if_pos hpage]
      rfl
    · rw [decide_eq_true hpage, if_pos rfl, if_neg hpage]
      rfl

/-- A row with the branch penalty makes a branch of R155; that its operand is the displacement and that the instruction runs `branchIf`
on its mnemonic's condition holds by definition for each row. -/
theorem branches_of_descriptor {make : Byte → Instr} {op : Byte} {m : Mnemonic}
    (hd : ∀ d, (make d).descriptor = some ⟨op, m, .rel, 2, false, true, .f2 make⟩)
    (ho : ∀ d, (make d).operand = .mem (.rel d) := by exact fun _ => rfl)
    (he : ∀ d s, exec (make d) s = branchIf (branchCondition m s.p) d s := by exact fun _ _ => rfl) :
    Branches make op (branchCondition m) := fun d s => by
  obtain ⟨-, hm, -⟩ := Instr.descriptor_eq_some (hd d)
  refine ⟨?bytes, ?effect, ?cycles⟩
  case bytes =>
    rw [encode_of_descriptor (hd d), ho]
    rfl
  case effect => rw [he, branchIf_eq_target]
  case cycles => rw [instrCycles_of_branch_descriptor (hd d) (ho d), ← hm]

/-- Settles O31: the row of each branch, whose condition is the one its mnemonic names. -/
theorem branchInstructions : Obligations.BranchInstructions :=
  ⟨branches_of_descriptor descriptor_bcc, branches_of_descriptor descriptor_bcs, branches_of_descriptor descriptor_beq,
    branches_of_descriptor descriptor_bne, branches_of_descriptor descriptor_bmi, branches_of_descriptor descriptor_bpl,
    branches_of_descriptor descriptor_bvc, branches_of_descriptor descriptor_bvs⟩

end Sys2Proof.Machine
end

section
/-! PROOF. JMP, JSR, RTS, RTI and BRK (R171 to R176) on a total bus; and where the stack is memory, what they leave there: RTS gives back
the address JSR pushed, RTI the address and the flags a trap pushed (R170, R232). -/

namespace Sys2Proof.Machine

/-! The five instructions. -/

/-- Settles O32: the rows of JMP, and the resolver's two modes; the second pointer byte is at `indirectHigh`. -/
theorem jumps : Obligations.Jumps := by
  refine ⟨wordForm_of_descriptor descriptor_jmpAbs, wordForm_of_descriptor descriptor_jmpInd, fun _ _ => rfl, fun w s hb =>
    ⟨indirectHigh s.params.jmpIndWrap w, indirectHigh_toNat _ w, ?_⟩⟩
  have hea : s.ea (.ind w) = s.peekWord w (indirectHigh s.params.jmpIndWrap w) := State.peekWord_withPc ..
  have hat : s.atOperand (.ind w) = (s.afterReadWord w (indirectHigh s.params.jmpIndWrap w)).withPc (s.pc + 3) :=
    State.afterReadWord_withPc ..
  refine (jumpTo_total hb (.ind w)).trans ?_
  rw [hea, hat, State.afterReadWord_eq]
  rfl

/-- Settles O33: the row of JSR; PC past the instruction, less one, is the address of its last byte. -/
theorem jumpToSubroutine : Obligations.JumpToSubroutine := by
  refine ⟨wordForm_of_descriptor descriptor_jsr, fun w s hb => (execJsr_total hb w).trans ?_⟩
  have hlast : s.pc + 3 - 1 = s.pc + 2 := by bv_omega
  rw [hlast, State.pushed_pushed, State.advance]
  simp only [State.poke_withPc, State.withPc_sp]
  rfl

/-- Settles O34: the row of RTS, and two pulls. -/
theorem returnFromSubroutine : Obligations.ReturnFromSubroutine := by
  refine ⟨plainForm_of_descriptor descriptor_rts, fun s hb => (execRts_total hb).trans ?_⟩
  rw [State.top_top, State.pulled_pulled, State.advance]
  simp only [State.peekWord_withPc, State.afterReadWord_withPc, State.withPc_sp]
  rw [State.afterReadWord_eq]
  rfl

/-- Settles O35: the row of RTI, and the return from a trap; its three reads change the history alone. -/
theorem returnFromInterrupt : Obligations.ReturnFromInterrupt := by
  refine ⟨plainForm_of_descriptor descriptor_rti, fun s hb => (execRti_total hb).trans ?_⟩
  rw [State.returned_eq, State.advance]
  simp only [State.peek_withPc, State.afterRead_withPc, State.peekWord_withPc, State.afterReadWord_withPc, State.withPc_sp]
  rw [State.afterReadWord_eq, State.afterRead_eq]
  rfl

/-- Settles O36: the row of BRK, and the trap, entered from PC past the opcode and the padding. -/
theorem break_holds : Obligations.Break := by
  refine ⟨plainForm_of_descriptor descriptor_brk, fun s hb => (execBrk_total hb).trans ?_⟩
  rw [State.trapped_eq, State.advance, State.advance, State.trapEntry_withPc, State.trapEntry_withPc]
  rfl

/-! The stack in memory. -/

section
variable {s : State}

theorem State.StackIsRam.of_bus {t : State} (hr : s.StackIsRam) (h : t.bus = s.bus) : t.StackIsRam := by
  obtain ⟨cell, hinj, hcell⟩ := hr
  exact ⟨cell, hinj, fun sp => (State.route_congr h _).trans (hcell sp)⟩

/-- A read of a stack location leaves no trace. -/
theorem State.StackIsRam.afterRead_slot (hr : s.StackIsRam) (sp : Byte) : s.afterRead (slot sp) = s := by
  obtain ⟨cell, -, hcell⟩ := hr
  exact State.afterRead_ram (hcell sp)

theorem State.StackIsRam.afterReadWord_slot (hr : s.StackIsRam) (i j : Byte) : s.afterReadWord (slot i) (slot j) = s := by
  rw [State.afterReadWord, hr.afterRead_slot, hr.afterRead_slot]

theorem State.StackIsRam.peekWord_slot (hr : s.StackIsRam) (i j : Byte) :
    s.peekWord (slot i) (slot j) = word (s.peek (slot j)) (s.peek (slot i)) := by
  rw [State.peekWord, hr.afterRead_slot]

/-- A write of a stack location changes memory alone. -/
theorem State.StackIsRam.poke_slot_eq (hr : s.StackIsRam) (sp v : Byte) :
    s.poke (slot sp) v = s.withMem (s.poke (slot sp) v).mem := by
  obtain ⟨cell, -, hcell⟩ := hr
  rw [State.poke_ram v (hcell sp), State.withMem_mem]

theorem State.StackIsRam.poke (hr : s.StackIsRam) (addr : Word) (v : Byte) : (s.poke addr v).StackIsRam :=
  hr.of_bus (State.poke_bus ..)

/-- What a stack location answers looks at the map and the memory alone. -/
theorem State.StackIsRam.peek_slot_congr {t : State} (hr : s.StackIsRam) (hb : t.bus = s.bus) (hm : t.mem = s.mem) (sp : Byte) :
    t.peek (slot sp) = s.peek (slot sp) := by
  obtain ⟨cell, -, hcell⟩ := hr
  exact State.peek_cell hb (.inl (hcell sp)) (by rw [hm])

/-- A write of a stack location changes that location and no other. -/
theorem State.StackIsRam.peek_poke_slot (hr : s.StackIsRam) (hw : Memory.wf s.mem = true) (i j v : Byte) :
    (s.poke (slot i) v).peek (slot j) = if j = i then v else s.peek (slot j) := by
  obtain ⟨cell, hinj, hcell⟩ := hr
  have hroute : (s.poke (slot i) v).route (slot j) = .ram (cell j) := (State.route_congr (State.poke_bus ..) _).trans (hcell j)
  rw [State.peek_ram hroute, State.poke_ram v (hcell i), State.withMem_mem, Memory.read_write _ _ _ _ hw,
    State.peek_ram (hcell j)]
  simp only [hinj.eq_iff]

end

/-! A call and its return. -/

section
variable {s : State}

/-- The two stack locations that JSR writes hold what it wrote. -/
theorem State.StackIsRam.peek_poke_poke (hr : s.StackIsRam) (hw : Memory.wf s.mem = true) (sp h l : Byte) :
    ((s.poke (slot sp) h).poke (slot (sp - 1)) l).peek (slot sp) = h ∧
      ((s.poke (slot sp) h).poke (slot (sp - 1)) l).peek (slot (sp - 1)) = l := by
  have hne : sp ≠ sp - 1 := by bv_omega
  have hsecond := (hr.poke (slot sp) h).peek_poke_slot (State.poke_wf hw ..) (sp - 1)
  exact ⟨by rw [hsecond, if_neg hne, hr.peek_poke_slot hw, if_pos rfl], by rw [hsecond, if_pos rfl]⟩

/-- JSR's two writes change memory alone. -/
theorem State.StackIsRam.poke_poke_eq (hr : s.StackIsRam) (i j h l : Byte) :
    (s.poke (slot i) h).poke (slot j) l = s.withMem ((s.poke (slot i) h).poke (slot j) l).mem :=
  ((hr.poke ..).poke_slot_eq ..).trans <| (congrArg (State.withMem · _) (hr.poke_slot_eq ..)).trans rfl

/-- Where the stack is memory and the two locations above SP, the upper one that of `sp`, hold an address, RTS continues one past it. -/
theorem exec_rts_of_peek (hb : s.BusTotal) (hr : s.StackIsRam) {sp : Byte} (hsp : s.sp = sp - 2) {ret : Word}
    (hhigh : s.peek (slot sp) = hi8 ret) (hlow : s.peek (slot (sp - 1)) = lo8 ret) :
    exec .rts s = .next ((s.withSp sp).withPc (ret + 1)) := by
  obtain ⟨-, hrts⟩ := returnFromSubroutine
  have h1 : s.sp + 1 = sp - 1 := by bv_omega
  have h2 : s.sp + 2 = sp := by bv_omega
  rw [hrts s hb, hr.peekWord_slot, hr.afterReadWord_slot, h1, h2, hlow, hhigh, word_hi8_lo8]
  rfl

end

/-- Settles O47: RTS finds the two bytes where JSR wrote them, and JSR's two writes are the only change to memory and the history. -/
theorem callReturns : Obligations.CallReturns := by
  intro s w hb hr hw
  obtain ⟨-, hjsr⟩ := jumpToSubroutine
  refine ⟨_, hjsr w s hb, ?_⟩
  obtain ⟨hhigh, hlow⟩ := hr.peek_poke_poke hw s.sp (hi8 (s.pc + 2)) (lo8 (s.pc + 2))
  have hframe := hr.poke_poke_eq s.sp (s.sp - 1) (hi8 (s.pc + 2)) (lo8 (s.pc + 2))
  generalize (s.poke (slot s.sp) (hi8 (s.pc + 2))).poke (slot (s.sp - 1)) (lo8 (s.pc + 2)) = t at *
  have hbus : t.bus = s.bus := (congrArg State.bus hframe).trans rfl
  have hpc : s.pc + 2 + 1 = s.pc + 3 := by bv_omega
  refine (exec_rts_of_peek (s := (t.withSp (s.sp - 2)).withPc w) (hb.of_bus hbus) (hr.of_bus hbus) rfl hhigh hlow).trans ?_
  rw [hframe, hpc]
  rfl

/-! A trap and its return. -/

section
variable {s : State}

/-- The three stack locations that a trap writes hold the return address and the status byte. -/
theorem State.StackIsRam.peek_trapEntry (hr : s.StackIsRam) (hw : Memory.wf s.mem = true) (ret : Word) (brk : Bool) (vec : Word) :
    (s.trapEntry ret brk vec).peek (slot s.sp) = hi8 ret ∧ (s.trapEntry ret brk vec).peek (slot (s.sp - 1)) = lo8 ret ∧
      (s.trapEntry ret brk vec).peek (slot (s.sp - 2)) = s.p.pbyte brk := by
  have hhighNe : s.sp ≠ s.sp - 2 := by bv_omega
  have hlowNe : s.sp - 1 ≠ s.sp - 2 := by bv_omega
  have hr2 := (hr.poke (slot s.sp) (hi8 ret)).poke (slot (s.sp - 1)) (lo8 ret)
  have hw2 := State.poke_wf (State.poke_wf hw (slot s.sp) (hi8 ret)) (slot (s.sp - 1)) (lo8 ret)
  have hthird := hr2.peek_poke_slot hw2 (s.sp - 2)
  have htrap : ∀ sp, (s.trapEntry ret brk vec).peek (slot sp) = _ :=
    (hr2.poke (slot (s.sp - 2)) (s.p.pbyte brk)).peek_slot_congr rfl rfl
  obtain ⟨hhigh, hlow⟩ := hr.peek_poke_poke hw s.sp (hi8 ret) (lo8 ret)
  refine ⟨?_, ?_, ?_⟩
  · rw [htrap, hthird, if_neg hhighNe, hhigh]
  · rw [htrap, hthird, if_neg hlowNe, hlow]
  · rw [htrap, hthird, if_pos rfl]

/-- Pulling the status byte a trap pushed gives the flags back, whatever the break bit (R31). -/
theorem Flags.ofByte_pbyte (p : Flags) (brk : Bool) : Flags.ofByte (p.pbyte brk) = p := by
  obtain ⟨hbits, -⟩ := statusByte
  obtain ⟨-, -, -, -, -, -, -, -, hflags⟩ := hbits p brk
  exact hflags

/-- Where the stack is memory and the three locations above SP, the uppermost that of `sp`, hold an address and a status byte, RTI takes
PC and the flags from them. -/
theorem exec_rti_of_peek (hb : s.BusTotal) (hr : s.StackIsRam) {sp : Byte} (hsp : s.sp = sp - 3) {ret : Word} {p : Flags} {brk : Bool}
    (hhigh : s.peek (slot sp) = hi8 ret) (hlow : s.peek (slot (sp - 1)) = lo8 ret) (hp : s.peek (slot (sp - 2)) = p.pbyte brk) :
    exec .rti s = .next (((s.withSp sp).withP p).withPc ret) := by
  obtain ⟨-, hrti⟩ := returnFromInterrupt
  obtain ⟨-, hofByte⟩ := statusByte
  have h1 : s.sp + 1 = sp - 2 := by bv_omega
  have h2 : s.sp + 2 = sp - 1 := by bv_omega
  have h3 : s.sp + 3 = sp := by bv_omega
  rw [hrti s hb]
  simp only [hr.afterRead_slot, hr.peekWord_slot, hr.afterReadWord_slot, h1, h2, h3, hp, hlow, hhigh, word_hi8_lo8]
  rw [← hofByte, Flags.ofByte_pbyte]
  rfl

/-- After a trap, whatever has become of the pending bits, RTI is back at the return address with the flags and the registers of
before. -/
theorem exec_rti_of_trapEntry (hb : s.BusTotal) (hr : s.StackIsRam) (hw : Memory.wf s.mem = true) (ret : Word) (brk : Bool)
    (vec : Word) (nmi irq : Bool) :
    ∃ u, exec .rti { s.trapEntry ret brk vec with nmiPending := nmi, irqPending := irq } = .next u ∧
      u.pc = ret ∧ u.p = s.p ∧ u.sp = s.sp ∧ u.a = s.a ∧ u.x = s.x ∧ u.y = s.y := by
  obtain ⟨hhigh, hlow, hp⟩ := hr.peek_trapEntry hw ret brk vec
  have hsp : (s.trapEntry ret brk vec).sp = s.sp - 3 := rfl
  have hbus : (s.trapEntry ret brk vec).bus = s.bus := by simp [State.trapEntry]
  have hregs : (s.trapEntry ret brk vec).a = s.a ∧ (s.trapEntry ret brk vec).x = s.x ∧ (s.trapEntry ret brk vec).y = s.y := by
    simp [State.trapEntry]
  generalize s.trapEntry ret brk vec = t at *
  exact ⟨_, exec_rti_of_peek (s := (t.withNmiPending nmi).withIrqPending irq) (hb.of_bus hbus) (hr.of_bus hbus) hsp hhigh hlow hp,
    rfl, rfl, rfl, hregs⟩

/-- A pending NMI is serviced (R221 to R223). -/
theorem runCall_of_nmiPending (hrun : s.run = .running) (hb : s.BusTotal) (hn : s.nmiPending = true) :
    runCall s = .returned { s.trapEntry s.pc false vecNmi with nmiPending := false } cycInt := by
  unfold runCall
  rw [hrun]
  simp only [runRunning]
  rw [if_pos hn, serviceNmi_total hb, State.trapped_eq]
  rfl

/-- With no NMI pending, an IRQ that is not masked is serviced (R221, R222, R225). -/
theorem runCall_of_irqPending (hrun : s.run = .running) (hb : s.BusTotal) (hn : s.nmiPending = false) (hi : s.irqPending = true)
    (hmask : s.p.i = false) :
    runCall s = .returned { s.trapEntry s.pc false vecIrq with irqPending := false } cycInt := by
  unfold runCall
  rw [hrun]
  simp only [runRunning]
  rw [if_neg (by simp [hn]), if_pos (by simp [hi, hmask]), serviceIrq_total hb, State.trapped_eq]
  rfl

end

/-- Settles O46: a service and BRK are both the entry of a trap, from which `exec_rti_of_trapEntry` returns. -/
theorem trapReturns : Obligations.TrapReturns := by
  intro s hrun hb hr hw
  refine ⟨fun hpending => ?service, ?brk⟩
  case service =>
    cases hn : s.nmiPending with
    | true =>
      obtain ⟨u, hu⟩ := exec_rti_of_trapEntry hb hr hw s.pc false vecNmi false (s.trapEntry s.pc false vecNmi).irqPending
      exact ⟨_, u, congrArg RunResult.outcome (runCall_of_nmiPending hrun hb hn), hu⟩
    | false =>
      obtain ⟨hi, hmask⟩ := hpending.resolve_left (by simp [hn])
      obtain ⟨u, hu⟩ := exec_rti_of_trapEntry hb hr hw s.pc false vecIrq (s.trapEntry s.pc false vecIrq).nmiPending false
      exact ⟨_, u, congrArg RunResult.outcome (runCall_of_irqPending hrun hb hn hi hmask), hu⟩
  case brk =>
    obtain ⟨-, hbrk⟩ := break_holds
    obtain ⟨u, hu⟩ := exec_rti_of_trapEntry hb hr hw (s.pc + 1 + BitVec.ofNat 16 s.params.brkPad.val) true vecIrq _ _
    exact ⟨_, u, hbrk s hb, hu⟩

end Sys2Proof.Machine
end

section
/-! PROOF. PHA, PLA, PHP and PLP (R180 to R183) on a total bus; and where the stack is memory, what a pull finds after a push (R184). -/

namespace Sys2Proof.Machine

/-! The four instructions. -/

/-- A push after the opcode fetch, its stack location named by `slot` (R62). -/
theorem State.pushed_advance (s : State) (v : Byte) :
    (s.advance 1).pushed v = { s.poke (slot s.sp) v with sp := s.sp - 1, pc := s.pc + 1 } := by
  rw [State.pushed_eq_slot, State.advance, State.poke_withPc]
  rfl

/-- A pull after the opcode fetch finds what it would find before. -/
theorem State.top_advance (s : State) : (s.advance 1).top = s.peek (slot (s.sp + 1)) := by
  rw [State.top_eq_slot, State.advance, State.peek_withPc, State.withPc_sp]

/-- A pull after the opcode fetch, its stack location named by `slot` (R63). -/
theorem State.pulled_advance (s : State) :
    (s.advance 1).pulled = { s.afterRead (slot (s.sp + 1)) with sp := s.sp + 1, pc := s.pc + 1 } := by
  rw [State.pulled_eq_slot, State.advance, State.afterRead_withPc]
  rfl

/-- Settles O37: the rows of PHA and PHP, and a push. -/
theorem pushes : Obligations.Pushes := by
  refine ⟨plainForm_of_descriptor descriptor_pha, plainForm_of_descriptor descriptor_php, fun s hb => ⟨?pha, ?php⟩⟩
  case pha => exact (execPha_total hb).trans (congrArg _ (s.pushed_advance _))
  case php => exact (execPhp_total hb).trans (congrArg _ (s.pushed_advance _))

/-- Settles O38: the rows of PLA and PLP, and a pull; its read changes the history alone, so PLA's other flags are those of before. -/
theorem pulls : Obligations.Pulls := by
  refine ⟨plainForm_of_descriptor descriptor_pla, plainForm_of_descriptor descriptor_plp, fun s hb => ⟨?pla, ?plp⟩⟩
  case pla =>
    refine (execPla_total hb).trans ?_
    rw [s.top_advance, s.pulled_advance, State.afterRead_eq]
    rfl
  case plp =>
    refine (execPlp_total hb).trans ?_
    rw [s.top_advance, s.pulled_advance]
    rfl

/-! A push and a pull. -/

section
variable {s : State} (hb : s.BusTotal) (hr : s.StackIsRam) (hw : Memory.wf s.mem = true) (v : Byte)
include hb hr hw

/-- The pull of one stack instruction gives back what the push of the instruction before it stored, and restores SP. -/
theorem pull_pushed_advance : pull (((s.advance 1).pushed v).advance 1) =
    .ok v { s with pc := s.pc + 2, mem := ((s.advance 1).pushed v).mem } := by
  have hpc : s.pc + 1 + 1 = s.pc + 2 := by bv_omega
  have hswap : ((s.advance 1).pushed v).advance 1 = ((s.advance 1).advance 1).pushed v := by
    simp only [State.advance, State.pushed_eq_slot, State.poke_withPc]
    rfl
  have hpull := pull_pushed (s := (s.advance 1).advance 1) (hb.of_bus rfl) (hr.of_bus rfl) hw v
  rw [← hswap] at hpull
  rw [hpull, ← hpc]
  rfl

/-- PLA after a push loads the byte pushed (R181, R184). -/
theorem exec_pla_pushed : exec .pla ((s.advance 1).pushed v) =
    .next (loadA v { s with pc := s.pc + 2, mem := ((s.advance 1).pushed v).mem }) := by
  change execPla _ = _
  rw [execPla, pull_pushed_advance hb hr hw]
  rfl

/-- PLP after a push loads the flags from the byte pushed (R183, R184). -/
theorem exec_plp_pushed : exec .plp ((s.advance 1).pushed v) =
    .next (State.withP { s with pc := s.pc + 2, mem := ((s.advance 1).pushed v).mem } (Flags.ofByte v)) := by
  change execPlp _ = _
  rw [execPlp, pull_pushed_advance hb hr hw]
  rfl

end

/-- The location a push wrote holds the byte pushed (R62, R184). -/
theorem State.StackIsRam.peek_pushed_advance {s : State} (hr : s.StackIsRam) (hw : Memory.wf s.mem = true) (v : Byte) :
    ((s.advance 1).pushed v).peek (slot s.sp) = v := by
  have hpoke := (hr.of_bus (t := s.advance 1) rfl).peek_poke_slot hw s.sp s.sp v
  rw [if_pos rfl] at hpoke
  rw [State.pushed_eq_slot, State.peek_withSp]
  exact hpoke

/-- Settles O48: the pull finds the byte pushed, which is A or the status byte, whose bits are those of `statusByte`. -/
theorem stackRoundTrips : Obligations.StackRoundTrips := by
  intro s hb hr hw
  obtain ⟨hbits, -⟩ := statusByte
  obtain ⟨hn, hv, hreserved, hbreak, hd, hi, hz, hc, hflags⟩ := hbits s.p true
  refine ⟨⟨_, execPha_total hb, hr.peek_pushed_advance hw s.a, exec_pla_pushed hb hr hw s.a⟩, ⟨_, execPhp_total hb, ?plp⟩,
    ⟨_, _, execPhp_total hb, exec_pla_pushed hb hr hw _, rfl, hn, hv, hreserved, hbreak, hd, hi, hz, hc⟩,
    ⟨_, _, execPha_total hb, exec_plp_pushed hb hr hw s.a, rfl, rfl⟩⟩
  case plp =>
    rw [exec_plp_pushed hb hr hw, hflags]
    rfl

end Sys2Proof.Machine
end

section
/-! PROOF. Flags, transfers, increments and decrements (R190 to R211): the one-byte instructions write their register and flags on any
bus; INC and DEC, on a total bus, replace the byte at their address. -/

namespace Sys2Proof.Machine

/-- Settles O39: the rows of the eight instructions, each of which writes its one flag in the state past its byte. -/
theorem flagInstructions : Obligations.FlagInstructions :=
  ⟨⟨plainForm_of_descriptor descriptor_clc, plainForm_of_descriptor descriptor_sec, plainForm_of_descriptor descriptor_cli,
    plainForm_of_descriptor descriptor_sei, plainForm_of_descriptor descriptor_cld, plainForm_of_descriptor descriptor_sed,
    plainForm_of_descriptor descriptor_clv, plainForm_of_descriptor descriptor_nop⟩,
    fun _ => ⟨rfl, rfl, rfl, rfl, rfl, rfl, rfl, rfl⟩⟩

/-- Settles O40: the rows of the six transfers; all but TXS load their register with `setZN`. -/
theorem transfers : Obligations.Transfers :=
  ⟨⟨plainForm_of_descriptor descriptor_tax, plainForm_of_descriptor descriptor_tay, plainForm_of_descriptor descriptor_txa,
    plainForm_of_descriptor descriptor_tya, plainForm_of_descriptor descriptor_tsx, plainForm_of_descriptor descriptor_txs⟩,
    fun _ => ⟨rfl, rfl, rfl, rfl, rfl, rfl⟩⟩

/-! Steps of a byte. -/

section
variable {v r : Byte}

theorem add_one_toNat : (v + 1).toNat = (v.toNat + 1) % 256 := BitVec.toNat_add v 1

theorem sub_one_toNat : (v - 1).toNat = (v.toNat + 255) % 256 := by
  rw [BitVec.toNat_sub, Nat.add_comm]
  rfl

theorem eq_add_one_of_toNat (h : r.toNat = (v.toNat + 1) % 256) : r = v + 1 :=
  BitVec.eq_of_toNat_eq (h.trans add_one_toNat.symm)

theorem eq_sub_one_of_toNat (h : r.toNat = (v.toNat + 255) % 256) : r = v - 1 :=
  BitVec.eq_of_toNat_eq (h.trans sub_one_toNat.symm)

end

/-- Settles O41: the rows of the four instructions, and a byte is determined by its number. -/
theorem registerSteps : Obligations.RegisterSteps :=
  ⟨⟨plainForm_of_descriptor descriptor_inx, plainForm_of_descriptor descriptor_iny, plainForm_of_descriptor descriptor_dex,
    plainForm_of_descriptor descriptor_dey⟩,
    fun _ _ => ⟨fun h => eq_add_one_of_toNat h ▸ rfl, fun h => eq_add_one_of_toNat h ▸ rfl, fun h => eq_sub_one_of_toNat h ▸ rfl,
      fun h => eq_sub_one_of_toNat h ▸ rfl⟩⟩

/-- INC and DEC are carried out by `bumpMem` on their own operand, with the function that adds `k` modulo 256 (R210, R211). -/
theorem exec_eq_bumpMem {i : Instr} {k : Nat} (h : (i.mnemonic = .inc ∧ k = 1) ∨ (i.mnemonic = .dec ∧ k = 255)) :
    ∃ f m, (∀ v : Byte, (f v).toNat = (v.toNat + k) % 256) ∧ i.operand = .mem m ∧ ∀ s, exec i s = bumpMem f m s := by
  obtain ⟨hi, rfl⟩ | ⟨hi, rfl⟩ := h
  case inl =>
    cases i with
    | incZp _ | incZpx _ | incAbs _ | incAbsx _ => exact ⟨_, _, fun _ => add_one_toNat, rfl, fun _ => rfl⟩
    | _ => cases hi
  case inr =>
    cases i with
    | decZp _ | decZpx _ | decAbs _ | decAbsx _ => exact ⟨_, _, fun _ => sub_one_toNat, rfl, fun _ => rfl⟩
    | _ => cases hi

/-- Settles O42: the rows of INC and DEC, and what `bumpMem` does on a total bus. -/
theorem memorySteps : Obligations.MemorySteps := by
  refine ⟨⟨byteForm_of_descriptor descriptor_incZp, byteForm_of_descriptor descriptor_incZpx,
      wordForm_of_descriptor descriptor_incAbs, wordForm_of_descriptor descriptor_incAbsx⟩,
    ⟨byteForm_of_descriptor descriptor_decZp, byteForm_of_descriptor descriptor_decZpx,
      wordForm_of_descriptor descriptor_decAbs, wordForm_of_descriptor descriptor_decAbsx⟩, fun i s k hb hk => ?_⟩
  obtain ⟨f, m, hf, ho, he⟩ := exec_eq_bumpMem hk
  exact ⟨_, _, _, _, _, hasAddress_mem hb ho, busRead_total (hb.atOperand m) _, hf _, (he s).trans (bumpMem_total hb f m)⟩

end Sys2Proof.Machine
end

section
/-! PROOF. Reset and the interrupts (R220 to R226, R260): reset is a load of PC from its vector, and the choice of R221 is read off the
pending bits and I. -/

namespace Sys2Proof.Machine

/-- Settles O8: `run()` looks at the run state first. -/
theorem noStepOutsideRunning : Obligations.NoStepOutsideRunning := by
  have hoff : ∀ s : State, s.run = .poweredOff → runCall s = .noStep .poweredOff := fun s h => by rw [runCall, h]
  have hfaulted : ∀ s : State, s.run = .faulted → runCall s = .noStep .faulted := fun s h => by rw [runCall, h]
  exact ⟨fun s h => ⟨hoff s h, congrArg RunResult.outcome (hoff s h)⟩,
    fun s h => ⟨hfaulted s h, congrArg RunResult.outcome (hfaulted s h)⟩⟩

/-- Settles O6: the vector is read after I and SP are written, which no read looks at, and the two reads change the history alone. -/
theorem resetSequence : Obligations.ResetSequence := by
  intro s hb
  have hvec : ((s.withP s.p.setI).withSp spReset).BusTotal := hb.of_bus rfl
  rw [resetCall, loadVector_total hvec]
  simp only [State.peekWord_withSp, State.peekWord_withP, State.afterReadWord_withSp, State.afterReadWord_withP]
  rw [State.afterReadWord_eq]
  rfl

/-- Settles O43: `runCall_of_nmiPending`, which asks nothing of I. -/
theorem nmiService : Obligations.NmiService := fun _ hrun hb hn => runCall_of_nmiPending hrun hb hn

/-- Settles O44: `runCall_of_irqPending`. -/
theorem irqService : Obligations.IrqService := fun _ hrun hb hn hi hmask => runCall_of_irqPending hrun hb hn hi hmask

/-- Settles O45: a service sets I, which masks the IRQ it leaves pending; CLI clears I and nothing else that the choice looks at. -/
theorem maskAndPriority : Obligations.MaskAndPriority := by
  refine ⟨fun s hrun hb hn hi => ?priority, fun s t hn hi hmask h => ?mask, fun s hrun hb hn hi => ?cli⟩
  case priority =>
    have hirq : (s.trapEntry s.pc false vecNmi).irqPending = true := by simp [State.trapEntry, hi]
    exact ⟨_, congrArg RunResult.outcome (runCall_of_nmiPending hrun hb hn), hirq, rfl, rfl, .inr rfl⟩
  case mask =>
    obtain ⟨-, hirq⟩ := pendingBitsAfterStep s t h
    rw [hirq, hi, hmask, Bool.or_true, Bool.and_true]
  case cli =>
    obtain ⟨-, hflags⟩ := flagInstructions
    obtain ⟨-, -, hcli, -⟩ := hflags s
    exact ⟨_, hcli, runCall_of_irqPending hrun (hb.of_bus rfl) hn hi rfl⟩

end Sys2Proof.Machine
end

section
/-! PROOF. The fetch and the step (R227, R240 to R243): what a fetch ends in, by the bytes at PC; every instruction and service stops only
at an address the bus refuses; so a call is aborted by such an address or by an illegal opcode byte. -/

namespace Sys2Proof.Machine

/-! What a fetch ends in. -/

section
variable {s t : State} {op : Byte} {d : Descriptor} {i : Instr} {bs : List Byte} {addr : Word}

theorem fetchInstr_eq_fetchOperands (h : s.refuses s.pc = false) :
    fetchInstr s = fetchOperands (s.peek s.pc) (s.afterRead s.pc) := by
  rw [fetchInstr, busRead_eq_ok.2 ⟨h, rfl, rfl⟩]

theorem fetchInstr_of_refuses (h : s.refuses s.pc = true) : fetchInstr s = .refused s.pc s := by
  rw [fetchInstr, busRead_refused h]

theorem fetchOperands_of_mem_illegalBytes (h : op ∈ illegalBytes) : fetchOperands op s = .illegal op s := by
  have hd : dispatch op = none := Option.isNone_iff_eq_none.1 ((dispatch_isNone_iff_mem_illegalBytes op).2 h)
  rw [fetchOperands, hd]

theorem fetchOperands_of_refused (hd : dispatch op = some d)
    (hf : fetchBytes (d.mode.length - 1) (s.pc + 1) s = .refused addr t) :
    fetchOperands op s = .refused addr (t.withPc (refusedPc d.mode addr)) := by
  rw [fetchOperands, hd]
  simp only [hf]

theorem fetchOperands_of_decode {rest : List Byte} (hd : dispatch op = some d)
    (hf : fetchBytes (d.mode.length - 1) (s.pc + 1) s = .ok bs t) (hi : decode (op :: bs) = .ok (i, rest)) :
    fetchOperands op s = .instr i t := by
  rw [fetchOperands, hd]
  simp only [hf, hi]

theorem fetchBytes_of_first_refused (h : s.refuses addr = true) (n : Nat) : fetchBytes (n + 1) addr s = .refused addr s := by
  rw [fetchBytes, busRead_refused h, Access.bind_refused]

theorem fetchBytes_of_second_refused (h : s.refuses addr = false) (h' : s.refuses (addr + 1) = true) (n : Nat) :
    fetchBytes (n + 2) addr s = .refused (addr + 1) (s.afterRead addr) := by
  rw [← State.refuses_congr (State.afterRead_bus s addr)] at h'
  rw [fetchBytes, busRead_eq_ok.2 ⟨h, rfl, rfl⟩, Access.bind_ok, fetchBytes_of_first_refused h', Access.bind_refused]

/-- A legal opcode byte and as many operand bytes as its mode has are an instruction (R81, R84). -/
theorem exists_decode_of_length (hd : dispatch op = some d) (hl : bs.length = d.mode.length - 1) :
    ∃ i, decode (op :: bs) = .ok (i, []) := by
  obtain ⟨hmem, -⟩ := dispatch_eq_some hd
  obtain ⟨i, hi⟩ := opcodeTable_makes hmem (ops := bs) (hl.trans (Nat.add_sub_cancel_left ..))
  exact ⟨i, decode_eq_ok.2 ⟨op, d, bs, hd, hi, by rw [List.append_nil]⟩⟩

/-- A fetch finds an illegal byte only at the opcode, before it reads any other (R240). -/
theorem fetchOperands_illegal {op' : Byte} (h : fetchOperands op s = .illegal op' t) :
    op' = op ∧ t = s ∧ op ∈ illegalBytes := by
  cases hd : dispatch op with
  | none =>
    have hop := (dispatch_isNone_iff_mem_illegalBytes op).1 (Option.isNone_iff_eq_none.2 hd)
    rw [fetchOperands_of_mem_illegalBytes hop] at h
    cases h
    exact ⟨rfl, rfl, hop⟩
  | some d =>
    cases hf : fetchBytes (d.mode.length - 1) (s.pc + 1) s with
    | refused addr u =>
      rw [fetchOperands_of_refused hd hf] at h
      cases h
    | ok bs u =>
      obtain ⟨hl, -⟩ := fetchBytes_ok hf
      obtain ⟨i, hi⟩ := exists_decode_of_length hd hl
      rw [fetchOperands_of_decode hd hf hi] at h
      cases h

theorem fetchInstr_illegal (h : fetchInstr s = .illegal op t) :
    op = s.peek s.pc ∧ t = s.afterRead s.pc ∧ op ∈ illegalBytes := by
  cases hr : s.refuses s.pc with
  | true =>
    rw [fetchInstr_of_refuses hr] at h
    cases h
  | false =>
    rw [fetchInstr_eq_fetchOperands hr] at h
    obtain ⟨rfl, rfl, hop⟩ := fetchOperands_illegal h
    exact ⟨rfl, rfl, hop⟩

/-- An instruction's opcode byte is dispatched to a row of its mode. -/
theorem dispatch_instr_opcode (i : Instr) : ∃ d, dispatch i.opcode = some d ∧ d.mode = i.mode := by
  obtain ⟨d, hd, -⟩ := i.exists_row
  obtain ⟨hmem, -, hmode⟩ := Instr.descriptor_eq_some hd
  have hop : i.opcode = d.opcode := by rw [Instr.opcode, hd]
  exact ⟨d, hop ▸ dispatch_opcode hmem, hmode⟩

/-- When the bytes at PC decode to an instruction of their number, the fetch delivers it (R227). -/
theorem fetchInstr_of_decode (hf : fetchBytes i.length s.pc s = .ok bs t) (hi : decode bs = .ok (i, [])) :
    fetchInstr s = .instr i t := by
  obtain ⟨op, d, ops, hd, hm, rfl⟩ := decode_eq_ok.1 hi
  obtain ⟨hmem, -⟩ := dispatch_eq_some hd
  obtain ⟨hrow, -⟩ := opcodeTable_owns hmem hm
  obtain ⟨-, -, hmode⟩ := Instr.descriptor_eq_some hrow
  have hl : i.length = d.mode.length - 1 + 1 := by
    rw [Instr.length, ← hmode, Mode.length]
    omega
  rw [hl] at hf
  obtain ⟨b, u, hb, hf⟩ := Access.bind_eq_ok.1 hf
  obtain ⟨cs, w, hcs, hbs⟩ := Access.bind_eq_ok.1 hf
  obtain ⟨hr, rfl, rfl⟩ := busRead_eq_ok.1 hb
  cases hbs
  rw [fetchInstr_eq_fetchOperands hr]
  exact fetchOperands_of_decode hd (by rwa [State.afterRead_pc]) hi

end

/-! A call that fetches, by what the fetch ends in. -/

section
variable {s t : State} (hrun : s.run = .running) (hs : s.NoService)
include hrun hs

theorem runCall_of_fetchInstr_instr {i : Instr} (h : fetchInstr s = .instr i t) :
    runCall s = concludeRun (exec i t) t (instrCycles i t) := by
  rw [runCall_instruction hrun hs, executeInstruction, h]

theorem runCall_of_fetchInstr_illegal {op : Byte} (h : fetchInstr s = .illegal op t) :
    runCall s = .aborted (.illegalOpcode op t.pc) t.toFaulted := by
  rw [runCall_instruction hrun hs, executeInstruction, h]

theorem runCall_of_fetchInstr_refused {addr : Word} (h : fetchInstr s = .refused addr t) :
    runCall s = .aborted (.busFault addr t) t.toFaulted := by
  rw [runCall_instruction hrun hs, executeInstruction, h]

/-- A call whose opcode byte is read and whose operand bytes the bus refuses at `addr` (R241). -/
theorem runCall_of_operand_refused {i : Instr} {addr : Word} (h0 : s.refuses s.pc = false) (hop : s.peek s.pc = i.opcode)
    (hf : fetchBytes (i.length - 1) (s.pc + 1) (s.afterRead s.pc) = .refused addr t) :
    runCall s = .aborted (.busFault addr (t.withPc (refusedPc i.mode addr))) (t.withPc (refusedPc i.mode addr)).toFaulted := by
  obtain ⟨d, hd, hmode⟩ := dispatch_instr_opcode i
  rw [Instr.length, ← hmode, ← State.afterRead_pc s s.pc] at hf
  refine runCall_of_fetchInstr_refused hrun hs ?_
  rw [fetchInstr_eq_fetchOperands h0, hop, ← hmode]
  exact fetchOperands_of_refused hd (by simpa using hf)

end

/-- Settles O49: the fetch delivers the decoded instruction, and a call ends as its meaning does. -/
theorem stepRunsDecoded : Obligations.StepRunsDecoded := by
  intro s t bs i hrun hs hf hi
  have hcall := runCall_of_fetchInstr_instr hrun hs (fetchInstr_of_decode hf hi)
  obtain ⟨-, ht⟩ := fetchBytes_ok hf
  refine ⟨?_, ht, fun u hu => ?_⟩
  · rw [step, hcall, concludeRun_outcome]
  · rw [hcall, hu, concludeRun]

/-- Settles O60: the operand bytes are read in order, so the fetch stops at the first one refused. -/
theorem refusedOperandByte : Obligations.RefusedOperandByte := by
  intro s i hrun hs h0 hop
  have hpc : s.pc + 1 + 1 = s.pc + 2 := by bv_omega
  have hafter : ∀ addr, (s.afterRead s.pc).refuses addr = s.refuses addr := State.refuses_congr (State.afterRead_bus ..)
  refine ⟨fun hl h1 => ?first, fun hl h1 h2 => ?second⟩
  case first =>
    obtain ⟨n, hn⟩ : ∃ n, i.length - 1 = n + 1 := ⟨i.length - 2, by omega⟩
    rw [← hafter] at h1
    have hf := fetchBytes_of_first_refused h1 n
    rw [← hn] at hf
    rw [runCall_of_operand_refused hrun hs h0 hop hf, refusedPc, hpc, State.afterRead_eq]
    rfl
  case second =>
    have himm : i.mode ≠ .imm := fun hm => by
      rw [Instr.length, hm] at hl
      cases hl
    rw [← hafter] at h1 h2
    have hf : fetchBytes (i.length - 1) (s.pc + 1) (s.afterRead s.pc) =
        .refused (s.pc + 2) (s.afterReadWord s.pc (s.pc + 1)) := by
      rw [← hpc] at h2 ⊢
      rw [hl]
      exact fetchBytes_of_second_refused h1 h2 0
    rw [runCall_of_operand_refused hrun hs h0 hop hf, refusedPc, if_neg himm, State.afterReadWord_eq]
    rfl

/-! Transactions stop only at an address the bus refuses. -/

/-- A sequence of transactions on the bus of `s`: it keeps the map, and where it stops the bus refuses the address (R52, R241). -/
def Access.RunsOn {α : Type} (s : State) : Access α → Prop
  | .ok _ t => t.bus = s.bus
  | .refused addr _ => s.refuses addr = true

/-- How an instruction can end on the bus of `s`: in a next state, or in a fault that names an address the bus refuses (R242). -/
inductive EndsOn (s : State) : Result → Prop where
  | next (t : State) : EndsOn s (.next t)
  | busFault {addr : Word} (left : State) (h : s.refuses addr = true) : EndsOn s (.fault (.busFault addr left))

section
variable {s t : State}

theorem Access.RunsOn.bind {α β : Type} {x : Access α} {f : α → State → Access β} (hx : x.RunsOn s)
    (hf : ∀ v u, u.bus = s.bus → (f v u).RunsOn s) : (x.bind f).RunsOn s := by
  cases x with
  | ok v u => exact hf v u hx
  | refused addr u => exact hx

theorem EndsOn.finish {x : Access Unit} (hx : x.RunsOn s) : EndsOn s (finish x) := by
  cases x with
  | ok _ u => exact .next u
  | refused addr u => exact .busFault u hx

section
variable (h : t.bus = s.bus)
include h

theorem busRead_runsOn (addr : Word) : (busRead t addr).RunsOn s := by
  cases hr : t.refuses addr with
  | true =>
    rw [busRead_refused hr]
    exact (State.refuses_congr h addr).symm.trans hr
  | false =>
    rw [busRead_eq_ok.2 ⟨hr, rfl, rfl⟩]
    exact (State.afterRead_bus t addr).trans h

theorem busWrite_runsOn (addr : Word) (v : Byte) : (busWrite t addr v).RunsOn s := by
  cases hr : t.refuses addr with
  | true =>
    rw [busWrite_refused hr]
    exact (State.refuses_congr h addr).symm.trans hr
  | false =>
    rw [busWrite_eq_ok (u := ()).2 ⟨hr, rfl⟩]
    exact (State.poke_bus t addr v).trans h

theorem readWord_runsOn (a b : Word) : (readWord t a b).RunsOn s :=
  (busRead_runsOn h a).bind fun _ _ h => (busRead_runsOn h b).bind fun _ _ h => h

theorem push_runsOn (v : Byte) : (push t v).RunsOn s := (busWrite_runsOn h _ v).bind fun _ _ h => h

theorem pull_runsOn : (pull t).RunsOn s := busRead_runsOn (t := t.withSp (t.sp + 1)) h _

theorem pushWord_runsOn (w : Word) : (pushWord t w).RunsOn s := (push_runsOn h _).bind fun _ _ h => push_runsOn h _

theorem pullWord_runsOn : (pullWord t).RunsOn s := (pull_runsOn h).bind fun _ _ h => (pull_runsOn h).bind fun _ _ h => h

theorem loadVector_runsOn (vec : Word) : (loadVector t vec).RunsOn s := (readWord_runsOn h _ _).bind fun _ _ h => h

theorem enterTrap_runsOn (brk : Bool) (vec : Word) : (enterTrap t brk vec).RunsOn s :=
  (pushWord_runsOn h _).bind fun _ _ h => (push_runsOn h _).bind fun _ u h =>
    loadVector_runsOn (t := u.withP u.p.setI) h vec

theorem returnFromTrap_runsOn : (returnFromTrap t).RunsOn s :=
  (pull_runsOn h).bind fun v u h => (pullWord_runsOn (t := u.withP (Flags.ofByte v)) h).bind fun _ _ h => h

theorem resolve_runsOn (m : MemOperand) : (resolve m t).RunsOn s := by
  cases m with
  | ind w => exact (readWord_runsOn h _ _).bind fun _ _ h => h
  | indx d => exact (readWord_runsOn h _ _).bind fun _ _ h => h
  | indy d => exact (readWord_runsOn h _ _).bind fun _ _ h => h
  | _ => exact h

end

theorem serviceNmi_runsOn : (serviceNmi s).RunsOn s := (enterTrap_runsOn rfl _ _).bind fun _ _ h => h

theorem serviceIrq_runsOn : (serviceIrq s).RunsOn s := (enterTrap_runsOn rfl _ _).bind fun _ _ h => h

/-! The instruction shapes. -/

/-- The resolver runs on the bus of the state before the instruction. -/
theorem resolve_advance_runsOn (m : MemOperand) : (resolve m (s.advance m.mode.length)).RunsOn s :=
  resolve_runsOn (t := s.advance m.mode.length) rfl m

theorem readMem_endsOn {use : Byte → State → State} {m : MemOperand} (hu : ∀ v u, (use v u).bus = u.bus) :
    EndsOn s (readMem use m s) :=
  .finish <| (resolve_advance_runsOn m).bind fun _ _ h => (busRead_runsOn h _).bind fun v u h => (hu v u).trans h

theorem storeMem_endsOn (value : State → Byte) (m : MemOperand) : EndsOn s (storeMem value m s) :=
  .finish <| (resolve_advance_runsOn m).bind fun _ _ h => busWrite_runsOn h _ _

theorem shiftMem_endsOn (f : Byte → Bool → Shifted) (m : MemOperand) : EndsOn s (shiftMem f m s) :=
  .finish <| (resolve_advance_runsOn m).bind fun _ _ h => (busRead_runsOn h _).bind fun v u h =>
    busWrite_runsOn (t := u.withP (u.p.setShift (f v u.p.c))) h _ _

theorem bumpMem_endsOn (f : Byte → Byte) (m : MemOperand) : EndsOn s (bumpMem f m s) :=
  .finish <| (resolve_advance_runsOn m).bind fun _ _ h => (busRead_runsOn h _).bind fun _ _ h =>
    (busWrite_runsOn h _ _).bind fun _ _ h => h

theorem jumpTo_endsOn (m : MemOperand) : EndsOn s (jumpTo m s) :=
  .finish <| (resolve_advance_runsOn m).bind fun _ _ h => h

end

/-- No instruction is refused, and a fault names an address the bus refuses (R241, R242). -/
theorem exec_endsOn (i : Instr) (s : State) : EndsOn s (exec i s) := by
  cases i with
  | adcImm _ | sbcImm _ | andImm _ | oraImm _ | eorImm _ | ldaImm _ | ldxImm _ | ldyImm _ | cmpImm _ | cpxImm _ | cpyImm _
  | aslAcc | lsrAcc | rolAcc | rorAcc | bcc _ | bcs _ | beq _ | bmi _ | bne _ | bpl _ | bvc _ | bvs _
  | clc | sec | cli | sei | cld | sed | clv | nop | tax | tay | txa | tya | tsx | txs | inx | iny | dex | dey =>
    exact .next _
  | adcIndx _ | adcZp _ | adcAbs _ | adcIndy _ | adcZpx _ | adcAbsy _ | adcAbsx _
  | sbcIndx _ | sbcZp _ | sbcAbs _ | sbcIndy _ | sbcZpx _ | sbcAbsy _ | sbcAbsx _
  | andIndx _ | andZp _ | andAbs _ | andIndy _ | andZpx _ | andAbsy _ | andAbsx _
  | oraIndx _ | oraZp _ | oraAbs _ | oraIndy _ | oraZpx _ | oraAbsy _ | oraAbsx _
  | eorIndx _ | eorZp _ | eorAbs _ | eorIndy _ | eorZpx _ | eorAbsy _ | eorAbsx _
  | ldaIndx _ | ldaZp _ | ldaAbs _ | ldaIndy _ | ldaZpx _ | ldaAbsy _ | ldaAbsx _
  | ldxZp _ | ldxAbs _ | ldxZpy _ | ldxAbsy _ | ldyZp _ | ldyAbs _ | ldyZpx _ | ldyAbsx _
  | cmpIndx _ | cmpZp _ | cmpAbs _ | cmpIndy _ | cmpZpx _ | cmpAbsy _ | cmpAbsx _
  | cpxZp _ | cpxAbs _ | cpyZp _ | cpyAbs _ | bitZp _ | bitAbs _ => exact readMem_endsOn fun _ _ => rfl
  | staIndx _ | staZp _ | staAbs _ | staIndy _ | staZpx _ | staAbsy _ | staAbsx _
  | stxZp _ | stxAbs _ | stxZpy _ | styZp _ | styAbs _ | styZpx _ => exact storeMem_endsOn _ _
  | aslZp _ | aslAbs _ | aslZpx _ | aslAbsx _ | lsrZp _ | lsrAbs _ | lsrZpx _ | lsrAbsx _
  | rolZp _ | rolAbs _ | rolZpx _ | rolAbsx _ | rorZp _ | rorAbs _ | rorZpx _ | rorAbsx _ => exact shiftMem_endsOn _ _
  | incZp _ | incAbs _ | incZpx _ | incAbsx _ | decZp _ | decAbs _ | decZpx _ | decAbsx _ => exact bumpMem_endsOn _ _
  | jmpAbs w => exact jumpTo_endsOn (.abs w)
  | jmpInd w => exact jumpTo_endsOn (.ind w)
  | jsr w =>
    exact .finish <| (resolve_advance_runsOn (.abs w)).bind fun _ _ h => (pushWord_runsOn h _).bind fun _ _ h => h
  | rts => exact .finish <| (pullWord_runsOn (t := s.advance 1) rfl).bind fun _ _ h => h
  | rti => exact .finish <| returnFromTrap_runsOn (t := s.advance 1) rfl
  | brk => exact .finish <| enterTrap_runsOn (t := (s.advance 1).advance s.params.brkPad.val) rfl _ _
  | pha | php => exact .finish <| push_runsOn (t := s.advance 1) rfl _
  | pla | plp => exact .finish <| (pull_runsOn (t := s.advance 1) rfl).bind fun _ _ h => h

/-! What aborts a call. -/

section
variable {s t : State} {f : Fault}

/-- In Running a call is an interrupt service, or there is nothing to service (R221). -/
theorem runCall_service_or_noService (hrun : s.run = .running) :
    (∃ x, Access.RunsOn s x ∧ runCall s = concludeRun (finish x) s cycInt) ∨ s.NoService := by
  rw [runCall, hrun]
  simp only [runRunning]
  cases hn : s.nmiPending with
  | true => exact .inl ⟨_, serviceNmi_runsOn, if_pos rfl⟩
  | false =>
    cases hi : s.irqPending with
    | false => exact .inr ⟨hn, .inl hi⟩
    | true =>
      cases hp : s.p.i with
      | true => exact .inr ⟨hn, .inr hp⟩
      | false => exact .inl ⟨_, serviceIrq_runsOn, rfl⟩

/-- A call that ends as an instruction or a service does is aborted only by an address the bus refuses. -/
theorem EndsOn.concludeRun_aborted {r : Result} {u : State} {n : Nat} (hr : EndsOn s r)
    (h : concludeRun r u n = .aborted f t) :
    ∃ addr left, f = .busFault addr left ∧ s.refuses addr = true ∧ t = left.toFaulted := by
  cases hr with
  | next v => cases h
  | busFault left hrefuses =>
    cases h
    exact ⟨_, left, rfl, hrefuses, rfl⟩

/-- An aborted call was in Running and leaves Faulted; the cause is an address the bus refuses, or, with no interrupt to service, an
illegal opcode byte at PC (R240 to R243). -/
theorem runCall_aborted (h : runCall s = .aborted f t) :
    s.run = .running ∧ t.run = .faulted ∧
      ((∃ addr left, f = .busFault addr left ∧ s.refuses addr = true) ∨
        (s.NoService ∧ f = .illegalOpcode (s.peek s.pc) s.pc ∧ s.peek s.pc ∈ illegalBytes)) := by
  cases hrun : s.run with
  | poweredOff =>
    rw [runCall, hrun] at h
    cases h
  | faulted =>
    rw [runCall, hrun] at h
    cases h
  | running =>
    refine ⟨rfl, ?_⟩
    obtain ⟨x, hx, hcall⟩ | hs := runCall_service_or_noService hrun
    · rw [hcall] at h
      obtain ⟨addr, left, hf, hrefuses, rfl⟩ := (EndsOn.finish hx).concludeRun_aborted h
      exact ⟨rfl, .inl ⟨addr, left, hf, hrefuses⟩⟩
    · cases hfetch : fetchInstr s with
      | instr i u =>
        obtain ⟨-, -, -, -, hu⟩ := fetchInstr_instr hfetch
        have hbus : u.bus = s.bus := (congrArg State.bus hu).trans rfl
        rw [runCall_of_fetchInstr_instr hrun hs hfetch] at h
        obtain ⟨addr, left, hf, hrefuses, rfl⟩ := (exec_endsOn i u).concludeRun_aborted h
        exact ⟨rfl, .inl ⟨addr, left, hf, (State.refuses_congr hbus addr).symm.trans hrefuses⟩⟩
      | illegal op u =>
        obtain ⟨rfl, rfl, hop⟩ := fetchInstr_illegal hfetch
        rw [runCall_of_fetchInstr_illegal hrun hs hfetch, State.afterRead_pc] at h
        cases h
        exact ⟨rfl, .inr ⟨hs, rfl, hop⟩⟩
      | refused addr u =>
        obtain ⟨hrefuses, -⟩ := fetchInstr_refused hfetch
        rw [runCall_of_fetchInstr_refused hrun hs hfetch] at h
        cases h
        exact ⟨rfl, .inl ⟨addr, u, rfl, hrefuses⟩⟩

/-- The fault of a step is that of its aborted call. -/
theorem runCall_aborted_of_step_fault (h : step s = .fault f) : ∃ t, runCall s = .aborted f t := by
  rw [step] at h
  cases hcall : runCall s with
  | aborted r u =>
    rw [hcall] at h
    cases h
    exact ⟨u, rfl⟩
  | returned u n =>
    rw [hcall] at h
    cases h
  | noStep r =>
    rw [hcall] at h
    cases h

/-- A reset that is aborted leaves Faulted, at an address of the vector that the bus refuses (R241, R260). -/
theorem resetCall_refused {addr : Word} (h : resetCall s = .refused addr t) : t.run = .faulted ∧ s.refuses addr = true := by
  have hvec : (loadVector ((s.withP s.p.setI).withSp spReset) vecReset).RunsOn s := loadVector_runsOn rfl vecReset
  rw [resetCall] at h
  cases hload : loadVector ((s.withP s.p.setI).withSp spReset) vecReset with
  | ok _ u =>
    rw [hload] at h
    cases h
  | refused a u =>
    rw [hload] at h hvec
    cases h
    exact ⟨rfl, hvec⟩

end

/-- Settles O50: the fetch stops at the byte it has read; `runCall_aborted` leaves an illegal byte at PC as the one cause. -/
theorem illegalOpcodeFaults : Obligations.IllegalOpcodeFaults := by
  refine ⟨fun s hrun hs h0 hop => ?fault, fun s op addr h => ?cause⟩
  case fault =>
    have hfetch : fetchInstr s = .illegal (s.peek s.pc) (s.afterRead s.pc) :=
      (fetchInstr_eq_fetchOperands h0).trans (fetchOperands_of_mem_illegalBytes hop)
    have hcall := runCall_of_fetchInstr_illegal hrun hs hfetch
    rw [State.afterRead_pc, State.afterRead_eq] at hcall
    exact ⟨congrArg RunResult.outcome hcall, hcall⟩
  case cause =>
    obtain ⟨t, hcall⟩ := runCall_aborted_of_step_fault h
    obtain ⟨hrun, -, ⟨a, left, hf, -⟩ | ⟨hs, hf, hop⟩⟩ := runCall_aborted hcall
    · cases hf
    · cases hf
      exact ⟨hrun, hs, rfl, rfl, hop⟩

/-- Settles O51: `exec_endsOn` for an instruction, `runCall_aborted` for a call. -/
theorem faultCauses : Obligations.FaultCauses := by
  obtain ⟨-, hfaulted⟩ := noStepOutsideRunning
  refine ⟨fun i s r h => ?refused, fun i s f h => ?exec, fun s f h => ?step, fun s hrun hs hr => ?opcode, fun s t f h => ?after,
    fun s t addr h => resetCall_refused h⟩
  case refused =>
    have hends := exec_endsOn i s
    rw [h] at hends
    cases hends
  case exec =>
    have hends := exec_endsOn i s
    rw [h] at hends
    cases hends with
    | busFault left hrefuses => exact ⟨_, left, rfl, hrefuses⟩
  case step =>
    obtain ⟨t, hcall⟩ := runCall_aborted_of_step_fault h
    obtain ⟨-, -, hbus | ⟨-, hf, -⟩⟩ := runCall_aborted hcall
    · exact .inr hbus
    · exact .inl ⟨_, hf⟩
  case opcode => exact runCall_of_fetchInstr_refused hrun hs (fetchInstr_of_refuses hr)
  case after =>
    obtain ⟨-, ht, -⟩ := runCall_aborted h
    exact ⟨ht, (hfaulted t ht).2⟩

end Sys2Proof.Machine
end
